-- ==== Sys2Proof/Word.lean ====
section
/-!
DEFINITION. The words of the NCX-24: bytes of its frames, 16-bit and 32-bit numbers, route times, consignment IDs,
and the numbers that name compartments, classes, probes and slots.
-/
namespace Sys2Proof

/-- One byte of a frame, a result or a statement (section 12.6). -/
abbrev Byte := BitVec 8

/-- A 16-bit number: a unit identity, a check word, a door-openings count. -/
abbrev Half := BitVec 16

/-- A 32-bit number: a receiver ID. -/
abbrev Wide := BitVec 32

/-- Route time: an unsigned 32-bit count of seconds that wraps (R146). -/
abbrev RouteTime := BitVec 32

/-- A consignment ID: 12 opaque bytes (section 1.1), the first byte sent the most significant. -/
abbrev ConsignmentId := BitVec 96

/-- A scan tag, modulo 256 (R70). -/
abbrev ScanTag := BitVec 8

/-- A compartment, 1 to 4, as its number less one. -/
abbrev CompNo := Fin 4

/-- A class, 0 to 7. -/
abbrev ClassNo := Fin 8

/-- A probe, 0 to 7. -/
abbrev ProbeNo := Fin 8

/-- A slot of the Custody Table, 0 to 127. -/
abbrev SlotNo := Fin 128

/-- A vector with one entry replaced. -/
def put {α : Type} {n : Nat} (v : Vector α n) (i : Fin n) (x : α) : Vector α n := v.set i x

end Sys2Proof
end

