-- ==== Sys2Proof/Syntax.lean ====
section
/-!
DEFINITION. The commands of the NCX-24: one constructor of `Instr` for each row of spec/opcode_table.json.
-/
namespace Sys2Proof

/-- The two ports (00, "The outside of the part"). -/
inductive PortId where
  | unit
  | dock
deriving DecidableEq, Repr

/-- A table step begins when the arbiter grants it and ends when every change it makes has been made (R10). Each step
row of the table is told at one of these two moments. -/
inductive StepPhase where
  | begins
  | ends
deriving DecidableEq, Repr

/-- The contents of a probe's answer frame (R55). -/
inductive Answer where
  /-- a temperature in tenths, as the signed 16-bit number sent -/
  | temperature (t : BitVec 16)
  /-- the fault report OPEN -/
  | openElement
  /-- the fault report SHORT -/
  | shortElement
deriving DecidableEq, Repr

/-- One command or event: one constructor for each row of spec/opcode_table.json. Bytes of a frame are in the order
they are sent, the command code left out. -/
inductive Instr where
  -- The read of a frame and the direct commands (12_command_ports_and_formats.md)
  /-- FRAME_READ (R169): the command code byte of a frame has been received on port `p`. -/
  | frameRead (p : PortId) (code : Byte)
  /-- UNKNOWN_COMMAND_FRAME (R169): the open frame, of a code that section 12.6 does not list, closes after `count` bytes. -/
  | unknownCommandFrame (p : PortId) (count : Nat)
  /-- READ_PORT_STATUS (R175): the frame closes after `count` bytes, the code included. -/
  | readPortStatus (p : PortId) (count : Nat)
  /-- POLL_FLAGS (R162): the frame closes after `count` bytes. -/
  | pollFlags (p : PortId) (count : Nat)
  /-- SET_FLAG_MASK (R164): the frame closes; `bytes` are those clocked in after the code. -/
  | setFlagMask (p : PortId) (bytes : List Byte)
  /-- READ_RESULT (R174): the frame closes after `count` bytes. -/
  | readResult (p : PortId) (count : Nat)
  /-- CANCEL (R176): the frame closes after `count` bytes. -/
  | cancel (p : PortId) (count : Nat)
  /-- PORT_RESET (R177): the frame closes after `count` bytes. -/
  | portReset (p : PortId) (count : Nat)
  -- The queued commands at their close: `bytes` are those clocked in after the code (R172, R179)
  /-- ADMIT_FRESH (R104, R106); bytes: ID; class; compartment. -/
  | admitFresh (p : PortId) (bytes : List Byte)
  /-- ADMIT_CARRIED (R104, R109); bytes: statement (76); class; compartment. -/
  | admitCarried (p : PortId) (bytes : List Byte)
  /-- DISCARD (R111); bytes: ID. -/
  | discard (p : PortId) (bytes : List Byte)
  /-- FIND (R14); bytes: ID. -/
  | find (p : PortId) (bytes : List Byte)
  /-- WALK (R18); bytes: compartment; state set; minimum verdict. -/
  | walk (p : PortId) (bytes : List Byte)
  /-- WALK_NEXT (R19); bytes: none. -/
  | walkNext (p : PortId) (bytes : List Byte)
  /-- MOVE without TRIAL (R114); bytes: ID; destination; options. -/
  | move (p : PortId) (bytes : List Byte)
  /-- MOVE_TRIAL, MOVE with TRIAL (R118); bytes: ID; destination; options. -/
  | moveTrial (p : PortId) (bytes : List Byte)
  /-- MOVE_ALL (R120); bytes: source; destination. -/
  | moveAll (p : PortId) (bytes : List Byte)
  /-- OFFER (R131); bytes: ID; own timeout (2). -/
  | offer (p : PortId) (bytes : List Byte)
  /-- WITHDRAW (R133); bytes: ID. -/
  | withdraw (p : PortId) (bytes : List Byte)
  /-- CONFIRM (R136); bytes: ID; receiver ID (4). -/
  | confirm (p : PortId) (bytes : List Byte)
  /-- READ_STATEMENT (R142); bytes: ID. -/
  | readStatement (p : PortId) (bytes : List Byte)
  /-- RETIRE (R143); bytes: ID; options. -/
  | retire (p : PortId) (bytes : List Byte)
  /-- SET_OFFER_TIMEOUT (R130); bytes: timeout (2). -/
  | setOfferTimeout (p : PortId) (bytes : List Byte)
  /-- SET_CLASS with values (R27); bytes: class; options; U, H, L, F; Bw, Bc; p; Tb. -/
  | setClass (p : PortId) (bytes : List Byte)
  /-- SET_CLASS_UNSET, SET CLASS with UNSET (R31); bytes: class; options; values ignored. -/
  | setClassUnset (p : PortId) (bytes : List Byte)
  /-- READ_CLASS (R33); bytes: class. -/
  | readClass (p : PortId) (bytes : List Byte)
  /-- SET_COMPARTMENT (R49); bytes: compartment; marks; air offset; hold limit; door limit; defrost ceiling; shield base; recovery length. -/
  | setCompartment (p : PortId) (bytes : List Byte)
  /-- READ_COMPARTMENT (R51); bytes: compartment. -/
  | readCompartment (p : PortId) (bytes : List Byte)
  /-- DEFROST_START (R44); bytes: compartment. -/
  | defrostStart (p : PortId) (bytes : List Byte)
  /-- DEFROST_END (R45); bytes: compartment. -/
  | defrostEnd (p : PortId) (bytes : List Byte)
  /-- SET_SCAN_PERIOD (R59); bytes: period. -/
  | setScanPeriod (p : PortId) (bytes : List Byte)
  /-- READ_SCAN (R68); bytes: none. -/
  | readScan (p : PortId) (bytes : List Byte)
  /-- READ_CLOCK (R148); bytes: none. -/
  | readClock (p : PortId) (bytes : List Byte)
  /-- SET_CLOCK (R149); bytes: v (4). -/
  | setClock (p : PortId) (bytes : List Byte)
  /-- SET_UNIT_ID (R159); bytes: identity (2). -/
  | setUnitId (p : PortId) (bytes : List Byte)
  -- The event of SET CLOCK
  /-- SET_CLOCK_EVENT (R150): a SET CLOCK that waited for the end of a table step is taken. -/
  | setClockEvent
  -- The table steps, each at its grant (`begins`) or at its end (`ends`) (R10)
  /-- ADMIT_STEP (R104). -/
  | admitStep (p : PortId) (ph : StepPhase)
  /-- FIND_STEP (R14). -/
  | findStep (p : PortId) (ph : StepPhase)
  /-- WALK_STEP (R18, R19). -/
  | walkStep (p : PortId) (ph : StepPhase)
  /-- MOVE_STEP (R115). -/
  | moveStep (ph : StepPhase)
  /-- TRIAL_MOVE_STEP (R119). -/
  | trialMoveStep (ph : StepPhase)
  /-- MOVE_ALL_SLOT (R122). -/
  | moveAllSlot (ph : StepPhase)
  /-- DISCARD_STEP (R111). -/
  | discardStep (ph : StepPhase)
  /-- OFFER_STEP (R131). -/
  | offerStep (p : PortId) (ph : StepPhase)
  /-- WITHDRAW_STEP (R133). -/
  | withdrawStep (p : PortId) (ph : StepPhase)
  /-- CLOSE_STEP (R137), CONFIRM's step on the Dock Port. -/
  | closeStep (ph : StepPhase)
  /-- READ_STATEMENT_STEP (R142). -/
  | readStatementStep (p : PortId) (ph : StepPhase)
  /-- RETIRE_STEP (R143). -/
  | retireStep (p : PortId) (ph : StepPhase)
  /-- CLASS_TEST_STEP (R27). -/
  | classTestStep (ph : StepPhase)
  /-- COMPARTMENT_TEST_STEP (R50). -/
  | compartmentTestStep (ph : StepPhase)
  /-- TABLE_TEST_STEP (R22, R159). -/
  | tableTestStep (ph : StepPhase)
  -- Events of the clock, the inputs, the passes and the power
  /-- ROUTE_CLOCK_SECOND (R146). -/
  | routeClockSecond
  /-- DOOR_OPENS (R40): the door line has held the open level for 100 ms. -/
  | doorOpens (c : CompNo)
  /-- DOOR_CLOSES (R41): the door line has held the closed level for 100 ms. -/
  | doorCloses (c : CompNo)
  /-- DOOR_LONG (R42): the door-long deadline is taken as reached. -/
  | doorLong (c : CompNo)
  /-- SCAN_TICK (R58): the next tick is taken as reached. -/
  | scanTick
  /-- PROBE_ANSWER (R55, R56): an answer frame of probe `n` arrives; `checkAgrees` says whether its check field agrees. -/
  | probeAnswer (n : ProbeNo) (answer : Answer) (checkAgrees : Bool)
  /-- PROBE_SILENT (R55): the answer window of the probe being polled ends without a correct answer. -/
  | probeSilent
  /-- ACCRUAL_VISIT (R73): the accrual pass's visit of the slot at its cursor. -/
  | accrualVisit (ph : StepPhase)
  /-- OFFER_DEADLINE_REACHED (R129): the head offer deadline is taken as reached. -/
  | offerDeadlineReached
  /-- LAPSE_STEP (R134). -/
  | lapseStep (ph : StepPhase)
  /-- MAIN_POWER_LOSS (R153): `stepCompletes` says which of the two outcomes R153 allows a table step in progress meets. -/
  | mainPowerLoss (stepCompletes : Bool)
  /-- MAIN_POWER_RETURN (R151): `none` when the start runs to its end; `some k` when main power goes again after `k` of its stages (R152). -/
  | mainPowerReturn (cutAfter : Option Nat)
  /-- RETENTION_SUPPLY_FAILS (R152). -/
  | retentionSupplyFails
  /-- GAP_VISIT (R155): the gap pass's visit of the slot at its cursor. -/
  | gapVisit (ph : StepPhase)
deriving DecidableEq, Repr

end Sys2Proof
end

