-- ==== Sys2Proof/Decode.lean ====
section
/-!
DEFINITION. Which word of the opcode table spells which command. The table of the NCX-24 gives no row any bits, so no
word spells one.
-/
namespace Sys2Proof

/-- The command a word of the table spells: none, for every word, since no row of spec/opcode_table.json has bits
(log 4). -/
def decodeTableWord (_nbits _w : Nat) : Option Instr := none

end Sys2Proof
end

