-- ==== Sys2Proof/Config.lean ====
section
/-!
DEFINITION. The capacities, ranges and defaults that the NCX-24's manual states once and uses throughout. The manual
leaves no value open, so no constant here is free.
-/
namespace Sys2Proof.Config

/-- Temperatures lie within −400..+500 tenths (00, Conventions). -/
def tempMin : Int := -400
def tempMax : Int := 500

/-- The marker of an absent temperature in a frame, a result or a statement (00, Conventions). -/
def absentTemp : Int := -32768

/-- W and C saturate here (R82, R83). -/
def maxExposure : Nat := 16777215

/-- Excursion seconds and blind seconds saturate here (R78, R84). -/
def maxSeconds : Nat := 4294967295

/-- Door exposures saturate here (R2). -/
def maxDoorExposures : Nat := 65535

/-- Lapses saturate here (R134). -/
def maxLapses : Nat := 255

/-- Lag saturates here (R61). -/
def maxLag : Nat := 1000

/-- Budgets lie within 0..16,000,000 xu (section 2.1). -/
def maxBudget : Nat := 16000000

/-- Blind tolerance lies within 0..86,400 s (section 2.1). -/
def maxTolerance : Nat := 86400

/-- Watch percent lies within 10..95 (section 2.1). -/
def minPercent : Nat := 10
def maxPercent : Nat := 95

/-- Air offset lies within −50..+50 tenths (section 3.1). -/
def maxOffset : Int := 50

/-- Hold limit lies within 0..15 scans (section 3.1). -/
def maxHold : Nat := 15

/-- Door limit and offer timeouts lie within 10..3,600 s (section 3.1, R130). -/
def minTimeout : Nat := 10
def maxTimeout : Nat := 3600

/-- The offer timeout and the door limit after a blank start (R158, section 3.1). -/
def defaultTimeout : Nat := 600

/-- The hold limit after a blank start (section 3.1). -/
def defaultHold : Nat := 2

/-- The scan period lies within 1..50 steps (R59). -/
def minPeriod : Nat := 1
def maxPeriod : Nat := 50

/-- The scan period after a blank start, in steps (R158). -/
def defaultPeriod : Nat := 5

/-- The next tick after a blank start (R58). -/
def firstTick : Nat := 30

/-- Seconds in a step (00, Conventions). -/
def stepSeconds : Nat := 6

/-- The offer queue holds at most this many entries (R128). -/
def offerCapacity : Nat := 16

/-- The last-refusal record's byte count saturates here (R170). -/
def maxRefusedCount : Nat := 255

end Sys2Proof.Config
end

