-- ==== Sys2Proof/Machine/State.lean ====
section
/-!
DEFINITION. The state of the NCX-24 as plain data, block by block (00, "Block overview"), its value after reset, and the
reasons a step can stop.
-/
namespace Sys2Proof.Machine

/-! ### Records -/

/-- The standing judgement on a record (section 6.1). -/
inductive Verdict where
  | intact
  | watch
  | unproven
  | broken
deriving DecidableEq, Repr

/-- The causes that name a test of the part (section 6.2). -/
inductive ReasonCause where
  | watchWarm
  | watchCold
  | blind
  | hardHigh
  | hardLow
  | warmBudget
  | coldBudget
deriving DecidableEq, Repr

/-- A record's cause: NONE, a reason cause, or CARRIED (section 6.2). -/
inductive Cause where
  | nothing
  | reason (r : ReasonCause)
  | carried
deriving DecidableEq, Repr

/-- A class's lower limit L and freeze floor F, held together or not at all (R23). -/
structure LowLimits where
  lower : Int
  floor : Int
deriving DecidableEq, Repr

/-- The limits and budgets that a closing step copies (R137): U, H, L with F, Bw, Bc. -/
structure LimitsCopy where
  upper : Int
  hard : Int
  low : Option LowLimits
  warmBudget : Nat
  coldBudget : Nat
deriving DecidableEq, Repr

/-- What only a live record holds (section 1.1). -/
structure LiveFields where
  doorStored : Nat
  doorBase : Half
  tag : ScanTag
deriving DecidableEq, Repr

/-- What only a CLOSED record holds (section 1.1, R137). -/
structure ClosedFields where
  closeTime : RouteTime
  receiver : Wide
  closingUnit : Half
  limits : LimitsCopy
  doorFinal : Nat
  checkWord : Half
  scanPeriod : Nat
  statementRead : Bool
deriving DecidableEq, Repr

/-- The state of a non-FREE record, with the fields present in that state alone (R1). -/
inductive Custody where
  | aboard (l : LiveFields)
  | offered (l : LiveFields) (deadline : RouteTime)
  | closed (f : ClosedFields)
deriving DecidableEq, Repr

/-- A non-FREE record (section 1.1). -/
structure Record where
  id : ConsignmentId
  cls : ClassNo
  comp : CompNo
  admittedAt : RouteTime
  warm : Nat
  cold : Nat
  excursion : Nat
  blind : Nat
  peakHigh : Option Int
  peakLow : Option Int
  lapses : Nat
  verdict : Verdict
  cause : Cause
  carriedCause : Option ReasonCause
  carriedFrom : Option Half
  custody : Custody
deriving DecidableEq, Repr

/-! ### Classes -/

/-- The contents of a SET class (section 2.1). An UNSET class holds nothing. -/
structure ClassLimits where
  upper : Int
  hard : Int
  low : Option LowLimits
  warmBudget : Nat
  coldBudget : Nat
  watchPercent : Nat
  tolerance : Nat
deriving DecidableEq, Repr

/-! ### Compartments -/

/-- The origin of a snapshot temperature. -/
inductive Source where
  | simulant
  | air
  | held
  | blind
deriving DecidableEq, Repr

/-- A snapshot's source with its temperature, which is absent exactly when the source is BLIND (section 4.3). -/
inductive Reading where
  | simulant (t : Int)
  | air (t : Int)
  | held (t : Int)
  | blind
deriving DecidableEq, Repr

/-- The compartment reading formed at a scan (section 4.3). -/
structure Snapshot where
  reading : Reading
  span : Nat
  doorOpen : Bool
  shielded : Bool
  takenAt : RouteTime
deriving DecidableEq, Repr

/-- The settings of a compartment (section 3.1). -/
structure Settings where
  active : Bool
  simulant : Bool
  air : Bool
  airOffset : Int
  holdLimit : Nat
  doorLimit : Nat
  ceiling : Int
  shieldBase : Nat
  recoveryLength : Nat
deriving DecidableEq, Repr

/-- The defrost state (section 3.4). -/
inductive DefrostState where
  | normal
  | defrost
  | recovery
deriving DecidableEq, Repr

/-- One compartment record: settings and state items (section 3.1, and the kept source of R65). -/
structure Compartment where
  settings : Settings
  defrost : DefrostState
  shieldLeft : Nat
  recoveryLeft : Nat
  doorOpen : Bool
  openings : Half
  doorDeadline : Option RouteTime
  lastGood : Option Int
  held : Nat
  keptSource : Option Source
  snapshot : Option Snapshot
  ceilingInForce : Int
deriving DecidableEq, Repr

/-! ### Probes and scans -/

/-- A probe's status (section 4.1). -/
inductive ProbeStatus where
  | absent
  | unread
  | good
  | clamped
  | openElement
  | shortElement
  | silent
deriving DecidableEq, Repr

/-- One probe (R54, R56). `steady`: it has stayed in service since the scan started (log 26). -/
structure Probe where
  status : ProbeStatus
  reading : Option Int
  answered : Bool
  steady : Bool
deriving DecidableEq, Repr

/-- The scan phase (section 4.2). -/
inductive ScanPhase where
  | idle
  | polling
  | charging
deriving DecidableEq, Repr

/-- The Probe Scanner's schedule (section 4.2). `toPoll`: the listed probes whose poll has not ended, the one being
polled first (log 26). -/
structure Scanner where
  period : Nat
  periodInForce : Nat
  nextTick : Option RouteTime
  phase : ScanPhase
  lag : Nat
  tag : ScanTag
  list : List ProbeNo
  toPoll : List ProbeNo
  span : Option Nat
deriving DecidableEq, Repr

/-! ### Exposure Engine and Handover Unit -/

/-- The Exposure Engine's two passes (section 5.1, R154 to R157). An accrual pass is RUNNING exactly while `passTag` is
present, and a gap pass runs exactly while `gapEnd` is. -/
structure ExposureEngine where
  passTag : Option ScanTag
  accrualCursor : SlotNo
  gapCursor : SlotNo
  gapEnd : Option RouteTime
  gapAmount : BitVec 32
  gapExempt : Vector Bool 128
deriving DecidableEq, Repr

/-- An entry of the offer queue (R128). -/
structure Offer where
  slot : SlotNo
  deadline : RouteTime
deriving DecidableEq, Repr

/-! ### Ports -/

/-- A set of the 38 condition flags (section 11.1), as the bits of section 12.8: bit 8j + k is bit k of byte j. -/
abbrev FlagSet := BitVec 38

/-- A walk filter (R16). `comp` is absent for "any". -/
structure WalkFilter where
  comp : Option CompNo
  aboard : Bool
  offered : Bool
  closed : Bool
  least : Verdict
deriving DecidableEq, Repr

/-- The values a SET CLASS frame carries, before clamping (section 2.3). -/
structure CarriedClass where
  upper : Int
  hard : Int
  lower : Int
  floor : Int
  warmBudget : Nat
  coldBudget : Nat
  watchPercent : Nat
  tolerance : Nat
deriving DecidableEq, Repr

/-- A queued command that waits for its owner or is at work (R171), with its parameters as R179 reads them. A WALK whose
compartment value is outside "any" and 1 to 4 carries no filter (R16). -/
inductive PortCommand where
  | admitFresh (id : ConsignmentId) (cls : ClassNo) (comp : Byte)
  | admitCarried (statement : List Byte) (cls : ClassNo) (comp : Byte)
  | discard (id : ConsignmentId)
  | find (id : ConsignmentId)
  | walk (f : Option WalkFilter)
  | walkNext
  | move (id : ConsignmentId) (dest : Byte)
  | moveTrial (id : ConsignmentId) (dest : Byte)
  | moveAll
  | offer (id : ConsignmentId) (own : Nat)
  | withdraw (id : ConsignmentId)
  | confirm (id : ConsignmentId) (receiver : Wide)
  | readStatement (id : ConsignmentId)
  | retire (id : ConsignmentId) (force : Bool)
  | setClass (cls : ClassNo) (v : CarriedClass)
  | setClassUnset (cls : ClassNo)
  | setCompartmentOff (c : CompNo) (v : Settings)
  | setClock (v : RouteTime)
  | setUnitId (v : Half)
deriving DecidableEq, Repr

/-- The result codes of section 12.7, the two markers apart. -/
inductive ResultCode where
  | ok
  | adjusted
  | notFound
  | duplicate
  | tableFull
  | classUnset
  | classInUse
  | badLimits
  | badCompartment
  | compartmentInUse
  | wrongState
  | offersFull
  | badStatement
  | unread
  | unitUnset
  | tableNotEmpty
  | cancelled
  | endOfWalk
  | noWalk
  | badId
deriving DecidableEq, Repr

/-- A result: its code, the command code of the command answered, and its data bytes (section 12.7). -/
structure Result where
  code : ResultCode
  command : Byte
  data : List Byte
deriving DecidableEq, Repr

/-- The state of a port with the command in flight or the result that waits (section 12.3). -/
inductive PortPhase where
  | idle
  | waiting (cmd : PortCommand)
  | working (cmd : PortCommand)
  | result (r : Result)
deriving DecidableEq, Repr

/-- The port-level refusal codes (section 12.7). -/
inductive RefusalCode where
  | frameLength
  | unknownCommand
  | notPermitted
  | busy
deriving DecidableEq, Repr

/-- The last-refusal record (R170). -/
structure LastRefusal where
  code : RefusalCode
  command : Byte
  count : Nat
deriving DecidableEq, Repr

/-- What READ RESULT found at its read (R174). -/
inductive FoundResult where
  | empty
  | notReady
  | waiting
deriving DecidableEq, Repr

/-- What a frame's read captured for its close (R169). -/
inductive Capture where
  /-- a command that acts at its close alone -/
  | nothing
  /-- POLL FLAGS: the returned set, and the flags raised again since the read (R162) -/
  | poll (returned raised : FlagSet)
  /-- READ RESULT: what it found and the data length n of its reply (R174) -/
  | result (found : FoundResult) (n : Nat)
  /-- CANCEL: its reply's mark (R176) -/
  | cancel (mark : Bool)
deriving DecidableEq, Repr

/-- A frame between its read and its close (R169). -/
structure OpenFrame where
  code : Byte
  capture : Capture
deriving DecidableEq, Repr

/-- One port (chapter 12), with its walk (R17) and its flag copy and mask (R160, R164). `reply` holds the reply bytes of
the latest frame, an output (log 17). -/
structure Port where
  phase : PortPhase
  lastRefusal : Option LastRefusal
  cursor : Nat
  filter : Option WalkFilter
  flags : FlagSet
  mask : FlagSet
  frame : Option OpenFrame
  reply : List Byte
deriving DecidableEq, Repr

/-! ### The table engine -/

/-- The five requesters of table steps (R11). -/
inductive Requester where
  | unitPort
  | dockPort
  | accrual
  | gap
  | lapse
deriving DecidableEq, Repr

/-- Whether a CANCEL holds the walk of a MOVE ALL (R176, log 12). -/
inductive Hold where
  /-- no hold -/
  | free
  /-- a CANCEL's read has been taken and its close has not -/
  | held
  /-- the walk's last step ended under the hold, and its result is held -/
  | ended (r : Result)
  /-- the CANCEL has closed while a slot step was in progress: the walk ends as that step ends -/
  | stopping
deriving DecidableEq, Repr

/-- The move-all record (R120). -/
structure MoveAllRecord where
  source : Byte
  dest : Byte
  next : SlotNo
  count : Nat
  hold : Hold
deriving DecidableEq, Repr

/-- What a table step reads of other blocks, as it stands when the step begins (R10, log 23). -/
structure StepInputs where
  now : RouteTime
  comps : Vector Compartment 4
  tag : ScanTag
  period : Nat
  offerTimeout : Nat
deriving DecidableEq, Repr

/-- The work of a table step. A MOVE ALL slot step keeps the source, destination and slot it began with (R126). -/
inductive StepWork where
  | port (p : PortId) (cmd : PortCommand)
  | moveAllSlot (source dest : Byte) (slot : SlotNo)
  | accrual
  | gap
  | lapse
deriving DecidableEq, Repr

/-- The table step in progress (R10). `discarded`: a PORT RESET found it at work, so its result is discarded (R177). -/
structure StepInProgress where
  work : StepWork
  inputs : StepInputs
  discarded : Bool
deriving DecidableEq, Repr

/-! ### The whole part -/

/-- The main-power state (R151). -/
inductive Power where
  | present
  | lost
deriving DecidableEq, Repr

/-- The kind of the last start (R148). -/
inductive StartKind where
  | blank
  | resume
deriving DecidableEq, Repr

/-- The state of the NCX-24. -/
structure State where
  power : Power
  clock : RouteTime
  lastSnapshotTime : RouteTime
  unitId : Half
  lastStart : StartKind
  valid : Bool
  slots : Vector (Option Record) 128
  useCount : Vector Nat 8
  occupancy : Vector Nat 4
  order : List Requester
  engine : Option StepInProgress
  moveAll : Option MoveAllRecord
  classes : Vector (Option ClassLimits) 8
  comps : Vector Compartment 4
  doorLines : Vector Bool 4
  scanner : Scanner
  probes : Vector Probe 8
  exposure : ExposureEngine
  offers : List Offer
  offerTimeout : Nat
  lapseHeld : Bool
  lapseWaiting : Bool
  unitPort : Port
  dockPort : Port
  pending : List Instr
deriving DecidableEq, Repr

/-- Why the part would stop. The spec gives the NCX-24 no fault: a command it declines is answered with a code or
recorded as a port-level refusal, and the part goes on (R169, section 12.7). So there is no constructor. -/
inductive Fault where
deriving DecidableEq, Repr

/-- Why a command is refused by the model. -/
inductive Refusal where
  /-- Raised by `exec` for a command that has no meaning yet; safe, since nothing is claimed of it. No arm raises it. -/
  | notModelled (mnemonic : String)
deriving DecidableEq, Repr

/-! ### Reset -/

/-- The settings of a compartment after a blank start (section 3.1). -/
def Settings.initial : Settings :=
  { active := false, simulant := false, air := false, airOffset := 0, holdLimit := Config.defaultHold,
    doorLimit := Config.defaultTimeout, ceiling := 0, shieldBase := 0, recoveryLength := 0 }

/-- A compartment after a blank start: default settings and the OFF form (R52). -/
def Compartment.initial : Compartment :=
  { settings := .initial, defrost := .normal, shieldLeft := 0, recoveryLeft := 0, doorOpen := false, openings := 0,
    doorDeadline := none, lastGood := none, held := 0, keptSource := none, snapshot := none, ceilingInForce := 0 }

/-- A probe out of service: ABSENT with no last reading (R54). Its answered mark is cleared as well (DESIGN CHOICE,
log 36). -/
def Probe.outOfService : Probe := { status := .absent, reading := none, answered := false, steady := false }

/-- The Probe Scanner after a blank start (section 4.2). -/
def Scanner.initial : Scanner :=
  { period := Config.defaultPeriod, periodInForce := Config.defaultPeriod,
    nextTick := some (BitVec.ofNat 32 Config.firstTick), phase := .idle, lag := 0, tag := 0, list := [], toPoll := [],
    span := none }

/-- The Exposure Engine with no pass (section 5.1, R158). -/
def ExposureEngine.initial : ExposureEngine :=
  { passTag := none, accrualCursor := 0, gapCursor := 0, gapEnd := none, gapAmount := 0,
    gapExempt := Vector.replicate 128 false }

/-- A port after a start, with the given flag copy: IDLE, nothing held, walk cursor 0, no filter, every flag enabled
(R166, R171). -/
def Port.started (flags : FlagSet) : Port :=
  { phase := .idle, lastRefusal := none, cursor := 0, filter := none, flags := flags, mask := BitVec.allOnes 38,
    frame := none, reply := [] }

/-- The arbiter's order after a start, highest first (R12). -/
def initialOrder : List Requester := [.accrual, .lapse, .unitPort, .dockPort, .gap]

/-- RETENTION_LOST alone: bit 4 of byte 4 (section 12.8). -/
def retentionLostOnly : FlagSet := BitVec.twoPow 38 36

/-- The part right after reset: main power present and a blank start just made (R158; log 19 and, for the door lines,
log 8). -/
def State.reset : State :=
  { power := .present, clock := 0, lastSnapshotTime := 0, unitId := 0, lastStart := .blank, valid := true,
    slots := Vector.replicate 128 none, useCount := Vector.replicate 8 0, occupancy := Vector.replicate 4 0,
    order := initialOrder, engine := none, moveAll := none, classes := Vector.replicate 8 none,
    comps := Vector.replicate 4 .initial, doorLines := Vector.replicate 4 false, scanner := .initial,
    probes := Vector.replicate 8 .outOfService, exposure := .initial, offers := [], offerTimeout := Config.defaultTimeout,
    lapseHeld := false, lapseWaiting := false, unitPort := .started retentionLostOnly,
    dockPort := .started retentionLostOnly, pending := [] }

end Sys2Proof.Machine
end

