-- ==== Sys2Proof/Machine/Operands.lean ====
section
/-!
DEFINITION. Operand forms and formats: big-endian numbers, the fields of a frame (R179), clamping, the command table of
section 12.6, the codes of section 12.7, and the wire forms of a result, a flag set and a statement's fields.
-/
namespace Sys2Proof.Machine

/-! ### Numbers on the wire (00, "Byte order") -/

/-- A number as `k` bytes, the most significant first. -/
def beBytes : Nat → Nat → List Byte
  | 0, _ => []
  | k + 1, n => BitVec.ofNat 8 (n / 256 ^ k) :: beBytes k n

/-- The number that some bytes stand for, the most significant first. -/
def beNat (bs : List Byte) : Nat := bs.foldl (fun a b => a * 256 + b.toNat) 0

/-- The `n` bytes at offset `o`. -/
def slice (o n : Nat) (bs : List Byte) : List Byte := (bs.drop o).take n

/-- The byte at offset `o`. -/
def byteAt (o : Nat) (bs : List Byte) : Byte := bs.getD o 0

/-- The unsigned number of `n` bytes at offset `o`. -/
def natAt (o n : Nat) (bs : List Byte) : Nat := beNat (slice o n bs)

/-- The signed 16-bit number at offset `o`, in two's complement. -/
def intAt (o : Nat) (bs : List Byte) : Int := (BitVec.ofNat 16 (natAt o 2 bs)).toInt

/-- A signed number as two bytes in two's complement. -/
def intBytes (t : Int) : List Byte := beBytes 2 (BitVec.ofInt 16 t).toNat

/-- A temperature as two bytes, an absent one as the marker −32768. -/
def tempBytes (t : Option Int) : List Byte := intBytes (t.getD Config.absentTemp)

/-- One byte holding a number. -/
def natByte (n : Nat) : Byte := BitVec.ofNat 8 n

/-- One byte holding yes or no. -/
def boolByte (b : Bool) : Byte := if b then 1 else 0

/-- A compartment's number, 1 to 4, as a byte. -/
def compByte (c : CompNo) : Byte := BitVec.ofNat 8 (c.val + 1)

/-! ### Clamping (00, "Clamped and refused") -/

/-- The nearer end of a range in place of a value outside it. -/
def clampInt (lo hi x : Int) : Int := max lo (min hi x)

/-- The same for unsigned numbers. -/
def clampNat (lo hi x : Nat) : Nat := max lo (min hi x)

/-- A temperature clamped to −400..+500. -/
def clampTemp (t : Int) : Int := clampInt Config.tempMin Config.tempMax t

/-- A sum that saturates at `top`. -/
def satAdd (top a b : Nat) : Nat := min top (a + b)

/-! ### Fields of a frame (R179) -/

/-- A class field: its low three bits name the class. -/
def classField (b : Byte) : ClassNo := ⟨b.toNat % 8, Nat.mod_lt _ (by decide)⟩

/-- A compartment field that names one of the four compartments; none for a value outside 1 to 4. -/
def compField (b : Byte) : Option CompNo :=
  if h : 1 ≤ b.toNat ∧ b.toNat ≤ 4 then some ⟨b.toNat - 1, by omega⟩ else none

/-- The consignment ID at offset 0 of a queued command's bytes. -/
def idField (bytes : List Byte) : ConsignmentId := BitVec.ofNat 96 (natAt 0 12 bytes)

/-- A consignment ID as its 12 bytes. -/
def idBytes (id : ConsignmentId) : List Byte := beBytes 12 id.toNat

/-- WALK's minimum verdict: the low two bits. -/
def verdictField (b : Byte) : Verdict :=
  match b.toNat % 4 with
  | 0 => .intact
  | 1 => .watch
  | 2 => .unproven
  | _ => .broken

/-- WALK's filter with compartment part `comp`: byte 1 is the state set, byte 2 the minimum verdict. -/
def filterField (comp : Option CompNo) (bytes : List Byte) : WalkFilter :=
  { comp := comp, aboard := (byteAt 1 bytes).getLsbD 0, offered := (byteAt 1 bytes).getLsbD 1,
    closed := (byteAt 1 bytes).getLsbD 2, least := verdictField (byteAt 2 bytes) }

/-- The filter of a WALK frame: compartment value 0 is "any" and 1 to 4 a compartment; with any other value the frame names
no filter (R16, R179). -/
def walkField (bytes : List Byte) : Option WalkFilter :=
  if byteAt 0 bytes = 0 then some (filterField none bytes)
  else (compField (byteAt 0 bytes)).map (fun c => filterField (some c) bytes)

/-- The values of a SET CLASS frame. -/
def classValues (bytes : List Byte) : CarriedClass :=
  { upper := intAt 2 bytes, hard := intAt 4 bytes, lower := intAt 6 bytes, floor := intAt 8 bytes,
    warmBudget := natAt 10 4 bytes, coldBudget := natAt 14 4 bytes, watchPercent := natAt 18 1 bytes,
    tolerance := natAt 19 4 bytes }

/-- The settings of a SET COMPARTMENT frame, before clamping. -/
def settingsField (bytes : List Byte) : Settings :=
  { active := (byteAt 1 bytes).getLsbD 0, simulant := (byteAt 1 bytes).getLsbD 1, air := (byteAt 1 bytes).getLsbD 2,
    airOffset := intAt 2 bytes, holdLimit := natAt 4 1 bytes, doorLimit := natAt 5 2 bytes, ceiling := intAt 7 bytes,
    shieldBase := natAt 9 1 bytes, recoveryLength := natAt 10 1 bytes }

/-! ### The command table (section 12.6) -/

/-- A row of the command table: code, length in bytes (READ RESULT's without its data), the ports that may send it, and
whether it is queued. -/
structure CommandRow where
  code : Byte
  length : Nat
  unit : Bool
  dock : Bool
  queued : Bool
deriving DecidableEq, Repr

def rowReadPortStatus : CommandRow := ⟨0x01, 6, true, true, false⟩
def rowPollFlags : CommandRow := ⟨0x02, 6, true, true, false⟩
def rowSetFlagMask : CommandRow := ⟨0x03, 11, true, true, false⟩
def rowReadResult : CommandRow := ⟨0x04, 5, true, true, false⟩
def rowCancel : CommandRow := ⟨0x05, 3, true, true, false⟩
def rowPortReset : CommandRow := ⟨0x06, 2, true, true, false⟩
def rowAdmitFresh : CommandRow := ⟨0x10, 15, true, true, true⟩
def rowAdmitCarried : CommandRow := ⟨0x11, 79, true, true, true⟩
def rowDiscard : CommandRow := ⟨0x12, 13, true, false, true⟩
def rowFind : CommandRow := ⟨0x14, 13, true, true, true⟩
def rowWalk : CommandRow := ⟨0x15, 4, true, true, true⟩
def rowWalkNext : CommandRow := ⟨0x16, 1, true, true, true⟩
def rowMove : CommandRow := ⟨0x18, 15, true, false, true⟩
def rowMoveAll : CommandRow := ⟨0x19, 3, true, false, true⟩
def rowOffer : CommandRow := ⟨0x20, 15, true, true, true⟩
def rowWithdraw : CommandRow := ⟨0x21, 13, true, true, true⟩
def rowConfirm : CommandRow := ⟨0x22, 17, false, true, true⟩
def rowReadStatement : CommandRow := ⟨0x23, 13, true, true, true⟩
def rowRetire : CommandRow := ⟨0x24, 14, true, true, true⟩
def rowSetOfferTimeout : CommandRow := ⟨0x28, 3, true, false, true⟩
def rowSetClass : CommandRow := ⟨0x30, 24, true, false, true⟩
def rowReadClass : CommandRow := ⟨0x31, 2, true, true, true⟩
def rowSetCompartment : CommandRow := ⟨0x38, 12, true, false, true⟩
def rowReadCompartment : CommandRow := ⟨0x39, 2, true, true, true⟩
def rowDefrostStart : CommandRow := ⟨0x3A, 2, true, false, true⟩
def rowDefrostEnd : CommandRow := ⟨0x3B, 2, true, false, true⟩
def rowSetScanPeriod : CommandRow := ⟨0x40, 2, true, false, true⟩
def rowReadScan : CommandRow := ⟨0x41, 1, true, false, true⟩
def rowReadClock : CommandRow := ⟨0x48, 1, true, true, true⟩
def rowSetClock : CommandRow := ⟨0x49, 5, true, false, true⟩
def rowSetUnitId : CommandRow := ⟨0x4A, 3, true, false, true⟩

/-- The command table. -/
def commandTable : List CommandRow :=
  [rowReadPortStatus, rowPollFlags, rowSetFlagMask, rowReadResult, rowCancel, rowPortReset, rowAdmitFresh,
   rowAdmitCarried, rowDiscard, rowFind, rowWalk, rowWalkNext, rowMove, rowMoveAll, rowOffer, rowWithdraw, rowConfirm,
   rowReadStatement, rowRetire, rowSetOfferTimeout, rowSetClass, rowReadClass, rowSetCompartment, rowReadCompartment,
   rowDefrostStart, rowDefrostEnd, rowSetScanPeriod, rowReadScan, rowReadClock, rowSetClock, rowSetUnitId]

/-- Whether a command code is one of section 12.6. -/
def knownCode (code : Byte) : Bool := commandTable.any (fun r => r.code == code)

/-- Whether a port may send a command (the Ports column of section 12.6). -/
def CommandRow.permits (r : CommandRow) : PortId → Bool
  | .unit => r.unit
  | .dock => r.dock

/-- The command code of a queued command (R175). -/
def PortCommand.code : PortCommand → Byte
  | .admitFresh _ _ _ => rowAdmitFresh.code
  | .admitCarried _ _ _ => rowAdmitCarried.code
  | .discard _ => rowDiscard.code
  | .find _ => rowFind.code
  | .walk _ => rowWalk.code
  | .walkNext => rowWalkNext.code
  | .move _ _ => rowMove.code
  | .moveTrial _ _ => rowMove.code
  | .moveAll => rowMoveAll.code
  | .offer _ _ => rowOffer.code
  | .withdraw _ => rowWithdraw.code
  | .confirm _ _ => rowConfirm.code
  | .readStatement _ => rowReadStatement.code
  | .retire _ _ => rowRetire.code
  | .setClass _ _ => rowSetClass.code
  | .setClassUnset _ => rowSetClass.code
  | .setCompartmentOff _ _ => rowSetCompartment.code
  | .setClock _ => rowSetClock.code
  | .setUnitId _ => rowSetUnitId.code

/-! ### Codes and enumerations (section 12.7) -/

/-- The value of a result code. -/
def ResultCode.byte : ResultCode → Byte
  | .ok => 0x00
  | .adjusted => 0x01
  | .notFound => 0x02
  | .duplicate => 0x03
  | .tableFull => 0x04
  | .classUnset => 0x05
  | .classInUse => 0x06
  | .badLimits => 0x07
  | .badCompartment => 0x08
  | .compartmentInUse => 0x09
  | .wrongState => 0x0A
  | .offersFull => 0x0B
  | .badStatement => 0x0C
  | .unread => 0x0D
  | .unitUnset => 0x0E
  | .tableNotEmpty => 0x0F
  | .cancelled => 0x10
  | .endOfWalk => 0x11
  | .noWalk => 0x12
  | .badId => 0x13

/-- The markers EMPTY and NOT_READY. -/
def emptyMarker : Byte := 0xF0
def notReadyMarker : Byte := 0xF1

/-- The value of a port-level refusal code. -/
def RefusalCode.byte : RefusalCode → Byte
  | .frameLength => 0x80
  | .unknownCommand => 0x81
  | .notPermitted => 0x82
  | .busy => 0x83

def Verdict.byte : Verdict → Byte
  | .intact => 0
  | .watch => 1
  | .unproven => 2
  | .broken => 3

def ReasonCause.byte : ReasonCause → Byte
  | .watchWarm => 1
  | .watchCold => 2
  | .blind => 3
  | .hardHigh => 4
  | .hardLow => 5
  | .warmBudget => 6
  | .coldBudget => 7

def Cause.byte : Cause → Byte
  | .nothing => 0
  | .reason r => r.byte
  | .carried => 8

def Source.byte : Source → Byte
  | .simulant => 0
  | .air => 1
  | .held => 2
  | .blind => 3

def ProbeStatus.byte : ProbeStatus → Byte
  | .absent => 0
  | .unread => 1
  | .good => 2
  | .clamped => 3
  | .openElement => 4
  | .shortElement => 5
  | .silent => 6

def DefrostState.byte : DefrostState → Byte
  | .normal => 0
  | .defrost => 1
  | .recovery => 2

def ScanPhase.byte : ScanPhase → Byte
  | .idle => 0
  | .polling => 1
  | .charging => 2

def StartKind.byte : StartKind → Byte
  | .blank => 0
  | .resume => 1

/-- The port state of a phase. -/
def PortPhase.byte : PortPhase → Byte
  | .idle => 0
  | .waiting _ => 1
  | .working _ => 2
  | .result _ => 3

/-- The record state of a non-FREE record. -/
def Custody.byte : Custody → Byte
  | .aboard _ => 1
  | .offered _ _ => 2
  | .closed _ => 3

/-! ### Results (section 12.7) -/

/-- A result as READ RESULT sends it: the four-byte header, then the data. -/
def Result.bytes (r : Result) : List Byte :=
  r.code.byte :: r.command :: (beBytes 2 r.data.length ++ r.data)

/-- The header READ RESULT sends with a marker. -/
def markerBytes (marker : Byte) : List Byte := [marker, 0, 0, 0]

/-! ### Flag sets (section 12.8, R183) -/

/-- A flag set as five bytes, the unused bits 0. -/
def flagBytes (f : FlagSet) : List Byte :=
  (List.range 5).map (fun j => BitVec.ofNat 8 (f.toNat / 256 ^ j))

/-- The 38 flags that five bytes name, byte 0 first; the unused bits are ignored. -/
def flagsOfBytes (bs : List Byte) : FlagSet :=
  BitVec.ofNat 38 ((bs.reverse.foldl (fun a b => a * 256 + b.toNat) 0))

/-! ### The check word (R108) -/

/-- The 16-bit words of some bytes, each of two bytes with the first the more significant. -/
def wordsOf : List Byte → List Nat
  | a :: b :: rest => (a.toNat * 256 + b.toNat) :: wordsOf rest
  | _ => []

/-- One addition with the overflow carried back into the lowest place. -/
def carryAdd (a w : Nat) : Nat := if 65535 < a + w then a + w - 65536 + 1 else a + w

/-- The check word of the words of a statement other than the check word itself. -/
def checkWordOf (words : List Nat) : Nat := 65535 - words.foldl carryAdd 0

/-- The check word the part computes for a statement's bytes: over the 37 words at offsets 0 to 73. -/
def checkWordOfBytes (bs : List Byte) : Nat := checkWordOf (wordsOf (bs.take 74))

end Sys2Proof.Machine
end

