-- ==== Sys2Proof/Machine/Flags.lean ====
section
/-!
DEFINITION. The condition flags (section 11.1, section 12.8), the verdicts with their causes, and the one rule by which a
verdict rises (chapter 6).
-/
namespace Sys2Proof.Machine

/-! ### Condition flags -/

/-- The conditions that set a compartment flag, in the order of their bits in section 12.8. -/
inductive CompFlag where
  | fault
  | held
  | blind
  | doorLong
  | shieldSpent
  | watch
  | unproven
  | broke
deriving DecidableEq, Repr

/-- The bit of a compartment flag within its compartment's byte. -/
def CompFlag.bit : CompFlag → Nat
  | .fault => 0
  | .held => 1
  | .blind => 2
  | .doorLong => 3
  | .shieldSpent => 4
  | .watch => 5
  | .unproven => 6
  | .broke => 7

/-- A compartment flag alone: FAULT_c to BREAK_c. -/
def compFlag (f : CompFlag) (c : CompNo) : FlagSet := BitVec.twoPow 38 (8 * c.val + f.bit)

/-- The global flags and the port's own, each alone (byte 4 of section 12.8). -/
def offerLapsedFlag : FlagSet := BitVec.twoPow 38 32
def tableFullFlag : FlagSet := BitVec.twoPow 38 33
def overrunFlag : FlagSet := BitVec.twoPow 38 34
def powerGapFlag : FlagSet := BitVec.twoPow 38 35
def retentionLostFlag : FlagSet := BitVec.twoPow 38 36
def emptyReadFlag : FlagSet := BitVec.twoPow 38 37

/-- A flag set or the empty set, by a condition. -/
def flagIf (b : Bool) (f : FlagSet) : FlagSet := if b then f else 0

/-! ### Verdicts and causes -/

/-- The place of a verdict in the order INTACT, WATCH, UNPROVEN, BROKEN (section 6.1). -/
def Verdict.rank : Verdict → Nat
  | .intact => 0
  | .watch => 1
  | .unproven => 2
  | .broken => 3

/-- The higher of two verdicts. -/
def Verdict.higher (a b : Verdict) : Verdict := if a.rank < b.rank then b else a

/-- The verdict a reason cause names (section 6.2). -/
def ReasonCause.verdict : ReasonCause → Verdict
  | .watchWarm => .watch
  | .watchCold => .watch
  | .blind => .unproven
  | .hardHigh => .broken
  | .hardLow => .broken
  | .warmBudget => .broken
  | .coldBudget => .broken

/-- The cause order (section 6.2). -/
def causeOrder : List ReasonCause :=
  [.hardHigh, .hardLow, .warmBudget, .coldBudget, .blind, .watchWarm, .watchCold]

/-- The highest of a verdict and every verdict reached. -/
def highestReached (v : Verdict) (reached : List ReasonCause) : Verdict :=
  reached.foldl (fun a r => a.higher r.verdict) v

/-- The first reason cause, in the cause order, among those reached whose verdict is `v`. -/
def firstCause (v : Verdict) (reached : List ReasonCause) : Option ReasonCause :=
  causeOrder.find? (fun r => reached.contains r && r.verdict == v)

/-- A verdict reached with its cause, when its test holds. -/
def reachedIf (b : Bool) (r : ReasonCause) : List ReasonCause := if b then [r] else []

/-- The flag of a verdict above INTACT for a compartment (R96); none for INTACT. -/
def verdictFlag (v : Verdict) (c : CompNo) : FlagSet :=
  match v with
  | .intact => 0
  | .watch => compFlag .watch c
  | .unproven => compFlag .unproven c
  | .broken => compFlag .broke c

/-- The set of verdicts reached applied to a record in one act (R94), with the flag the rise raises (R96). -/
def applyReached (reached : List ReasonCause) (r : Record) : Record × FlagSet :=
  let v := highestReached r.verdict reached
  if r.verdict.rank < v.rank then
    ({ r with verdict := v, cause := (firstCause v reached).elim r.cause .reason, carriedCause := none },
      verdictFlag v r.comp)
  else (r, 0)

/-! ### The tests that reach a verdict (R95) -/

/-- The blind test: blind seconds above the tolerance reach UNPROVEN. -/
def blindTest (k : ClassLimits) (blind : Nat) : List ReasonCause := reachedIf (decide (k.tolerance < blind)) .blind

/-- The high hard limit on a temperature (R80). -/
def hardHighTest (k : ClassLimits) (t : Int) : List ReasonCause := reachedIf (decide (k.hard ≤ t)) .hardHigh

/-- The low hard limit on a temperature, when the class has L (R80). -/
def hardLowTest (k : ClassLimits) (t : Int) : List ReasonCause :=
  match k.low with
  | some l => reachedIf (decide (t ≤ l.floor)) .hardLow
  | none => []

/-- The four budget and watch tests on W and C (R85). -/
def budgetTests (k : ClassLimits) (warm cold : Nat) : List ReasonCause :=
  reachedIf (decide (k.warmBudget < warm)) .warmBudget
    ++ reachedIf (k.low.isSome && decide (k.coldBudget < cold)) .coldBudget
    ++ reachedIf (decide (0 < warm) && decide (k.watchPercent * k.warmBudget ≤ warm * 100)) .watchWarm
    ++ reachedIf (k.low.isSome && decide (0 < cold) && decide (k.watchPercent * k.coldBudget ≤ cold * 100)) .watchCold

end Sys2Proof.Machine
end

