-- ==== Sys2Proof/Machine/Ops.lean ====
section
/-!
DEFINITION. The named operations over the state that the meanings share: time, ports and flags, taking a frame, finding
and writing records, the offer queue, and the arbiter's grants.
-/
namespace Sys2Proof.Machine

/-! ### Time (R147) -/

/-- A time is reached when the clock minus it, modulo 2^32, is below 2^31. -/
def reached (now t : RouteTime) : Bool := decide ((now - t).toNat < 2 ^ 31)

/-- Seconds remaining to a time; 0 once it is reached. -/
def secondsTo (now t : RouteTime) : Nat := if reached now t then 0 else (t - now).toNat

/-- A time some seconds after another, modulo 2^32. -/
def later (t : RouteTime) (seconds : Nat) : RouteTime := t + BitVec.ofNat 32 seconds

/-- Whether main power is present. -/
def State.powered (s : State) : Bool := s.power == .present

/-! ### Ports and flags -/

def State.port (s : State) : PortId → Port
  | .unit => s.unitPort
  | .dock => s.dockPort

def State.setPort (s : State) (p : PortId) (x : Port) : State :=
  match p with
  | .unit => { s with unitPort := x }
  | .dock => { s with dockPort := x }

/-- A port in another phase. -/
def State.setPhase (s : State) (p : PortId) (ph : PortPhase) : State := s.setPort p { s.port p with phase := ph }

/-- Flags set in one copy; a poll between its read and its close notes them (R160, R162). -/
def Port.raise (x : Port) (f : FlagSet) : Port :=
  { x with
    flags := x.flags ||| f
    frame := x.frame.map (fun fr =>
      match fr.capture with
      | .poll returned raised => { fr with capture := .poll returned (raised ||| f) }
      | _ => fr) }

/-- A condition raised: its flags set in both copies (R160). -/
def State.raise (s : State) (f : FlagSet) : State :=
  { s with unitPort := s.unitPort.raise f, dockPort := s.dockPort.raise f }

/-- The ready line of a port (R165): high while a result waits or the copy and the mask share a flag; low while main
power is lost (R167). -/
def State.readyLine (s : State) (p : PortId) : Bool :=
  s.powered && (((s.port p).phase.byte == 3) || ((s.port p).flags &&& (s.port p).mask != 0))

/-- A result placed: the port enters RESULT (R173). -/
def State.place (s : State) (p : PortId) (r : Result) : State := s.setPhase p (.result r)

/-- The walk cursor and filter of a port as after a start (R17). -/
def State.clearWalk (s : State) (p : PortId) : State := s.setPort p { s.port p with cursor := 0, filter := none }

/-! ### Taking a frame (R169, R170) -/

/-- A port-level refusal replaces the port's last-refusal record (R170). -/
def State.recordRefusal (s : State) (p : PortId) (code : RefusalCode) (command : Byte) (count : Nat) : State :=
  s.setPort p
    { s.port p with lastRefusal := some { code := code, command := command, count := min Config.maxRefusedCount count } }

/-- The open frame of a port, while main power is present. -/
def State.openFrame (s : State) (p : PortId) : Option OpenFrame := if s.powered then (s.port p).frame else none

/-- The frame of a port closed. -/
def State.endFrame (s : State) (p : PortId) : State := s.setPort p { s.port p with frame := none }

/-- Whether a queued command finds its port able to take it: IDLE or RESULT. -/
def PortPhase.free : PortPhase → Bool
  | .idle => true
  | .waiting _ => false
  | .working _ => false
  | .result _ => true

/-- The tests of length, permission and busy state at a close, in that order (R169); the code is the row's. `forced`:
the frame is a RETIRE that carries FORCE. -/
def frameTest (row : CommandRow) (p : PortId) (count : Nat) (forced : Bool) (phase : PortPhase) : Option RefusalCode :=
  if count != row.length then some .frameLength
  else if !row.permits p || (forced && p == .dock) then some .notPermitted
  else if row.queued && !phase.free then some .busy
  else none

/-- The close of a frame of command `row` on port `p` after `count` bytes: nothing when no such frame is open; else the
frame ends, and `refused` follows a recorded refusal or `accepted` a frame that passes. -/
def closeFrame (row : CommandRow) (p : PortId) (count : Nat) (forced : Bool) (refused accepted : State → State)
    (s : State) : State :=
  if (s.openFrame p).map (·.code) = some row.code then
    match frameTest row p count forced (s.port p).phase with
    | some r => refused ((s.endFrame p).recordRefusal p r row.code count)
    | none => accepted (s.endFrame p)
  else s

/-- The close of a queued command's frame: its count is the code and the bytes after it. -/
def closeQueued (row : CommandRow) (p : PortId) (bytes : List Byte) (accepted : State → State) (s : State) : State :=
  closeFrame row p (bytes.length + 1) false id accepted s

/-- A queued command accepted to wait for its owner (R172). -/
def acceptWaiting (p : PortId) (cmd : PortCommand) (s : State) : State := s.setPhase p (.waiting cmd)

/-- A result of a queued command. -/
def answer (row : CommandRow) (code : ResultCode) (data : List Byte) : Result :=
  { code := code, command := row.code, data := data }

/-- OK, or ADJUSTED when clamping changed a value. -/
def adjustedCode (adjusted : Bool) : ResultCode := if adjusted then .adjusted else .ok

/-! ### Records and slots -/

def State.setSlot (s : State) (i : SlotNo) (r : Option Record) : State := { s with slots := put s.slots i r }

/-- The slot numbers in ascending order. -/
def slotNumbers : List SlotNo := List.finRange 128

/-- The slot whose non-FREE record holds an ID (R5). -/
def State.findId (s : State) (id : ConsignmentId) : Option SlotNo :=
  slotNumbers.find? (fun i => s.slots[i].any (fun r => r.id == id))

/-- The lowest-numbered FREE slot (R7). -/
def State.firstFree (s : State) : Option SlotNo := slotNumbers.find? (fun i => s.slots[i].isNone)

/-- The record that holds an ID, with its slot (R5). -/
def State.findRecord (s : State) (id : ConsignmentId) : Option (SlotNo × Record) :=
  (s.findId id).bind (fun i => s.slots[i].map (fun r => (i, r)))

/-- The fields of a live record; none for a CLOSED one. -/
def Custody.live : Custody → Option LiveFields
  | .aboard l => some l
  | .offered l _ => some l
  | .closed _ => none

def Record.live (r : Record) : Option LiveFields := r.custody.live

/-- A live record with other live fields; a CLOSED one as it is. -/
def Record.withLive (r : Record) (l : LiveFields) : Record :=
  match r.custody with
  | .aboard _ => { r with custody := .aboard l }
  | .offered _ d => { r with custody := .offered l d }
  | .closed _ => r

/-- The door exposures of a live record, given its compartment's door-openings count (R2). -/
def doorExposures (openings : Half) (l : LiveFields) : Nat :=
  satAdd Config.maxDoorExposures (openings - l.doorBase).toNat l.doorStored

/-- One more live record of a class in a compartment (R8, R9). -/
def State.countIn (s : State) (k : ClassNo) (c : CompNo) : State :=
  { s with useCount := put s.useCount k (s.useCount[k] + 1), occupancy := put s.occupancy c (s.occupancy[c] + 1) }

/-- One live record of a class in a compartment fewer (R8, R9). -/
def State.countOut (s : State) (k : ClassNo) (c : CompNo) : State :=
  { s with useCount := put s.useCount k (s.useCount[k] - 1), occupancy := put s.occupancy c (s.occupancy[c] - 1) }

/-! ### The offer queue (R128, R129) -/

/-- One deadline is not later than another (R128). -/
def notLater (a b : RouteTime) : Bool := decide ((b - a).toNat < 2 ^ 31)

/-- A new entry placed after every entry not later than it and before the first that is later (R128). -/
def insertOffer (e : Offer) : List Offer → List Offer
  | [] => [e]
  | x :: xs => if notLater x.deadline e.deadline then x :: insertOffer e xs else e :: x :: xs

/-- The entry of a slot removed, wherever it stands. -/
def removeOffer (i : SlotNo) (q : List Offer) : List Offer := q.filter (fun o => o.slot != i)

/-- Whether the head deadline is reached while the lapse release is released (R129). -/
def State.headReached (s : State) : Bool :=
  !s.lapseHeld && (s.offers.head?.any (fun o => reached s.clock o.deadline))

/-- The head is compared again, as at the end of a step that changed the queue (R129). -/
def State.retestHead (s : State) : State := { s with lapseWaiting := s.headReached }

/-- The offer queue replaced in a table step. -/
def State.setOffers (s : State) (q : List Offer) : State := { s with offers := q }

/-! ### Compartments -/

def State.setComp (s : State) (c : CompNo) (x : Compartment) : State := { s with comps := put s.comps c x }

/-- Whether a compartment is ACTIVE. -/
def Compartment.active (x : Compartment) : Bool := x.settings.active

/-- A compartment field that names an ACTIVE compartment among those a step reads. -/
def activeField (comps : Vector Compartment 4) (b : Byte) : Option CompNo :=
  (compField b).filter (fun c => comps[c].active)

/-! ### The arbiter (R11, R12) -/

/-- The requester of a port. -/
def requesterOf : PortId → Requester
  | .unit => .unitPort
  | .dock => .dockPort

/-- Whether a waiting command of a port has a table step waiting. SET CLOCK waits for its event, and a MOVE ALL under
a CANCEL's hold has no step waiting (R176). -/
def State.portWaiting (s : State) (p : PortId) : Bool :=
  match (s.port p).phase with
  | .waiting (.setClock _) => false
  | .waiting .moveAll => s.moveAll.any (fun m => m.hold == .free)
  | .waiting _ => true
  | _ => false

/-- Whether a requester has a step waiting (R11), the engine having no step in progress. -/
def State.stepWaiting (s : State) : Requester → Bool
  | .unitPort => s.portWaiting .unit
  | .dockPort => s.portWaiting .dock
  | .accrual => s.exposure.passTag.isSome
  | .gap => s.exposure.gapEnd.isSome
  | .lapse => s.lapseWaiting && s.headReached

/-- Whether a SET CLOCK waits for its event, which is taken before the arbiter grants another step (R150). -/
def State.clockEventDue (s : State) : Bool :=
  match s.unitPort.phase with
  | .waiting (.setClock _) => true
  | _ => false

/-- Whether the arbiter grants this requester now: main power present, no step in progress, no SET CLOCK due, and the
requester the highest in the order among those waiting (R12). -/
def State.mayGrant (s : State) (r : Requester) : Bool :=
  s.powered && s.engine.isNone && !s.clockEventDue && (s.order.find? s.stepWaiting == some r)

/-- The order after a grant: the requester granted moves to the lowest place (R12). -/
def granted (r : Requester) (order : List Requester) : List Requester := order.erase r ++ [r]

/-- What a step reads of other blocks, taken as it begins (R10). -/
def State.inputs (s : State) : StepInputs :=
  { now := s.clock, comps := s.comps, tag := s.scanner.tag, period := s.scanner.period, offerTimeout := s.offerTimeout }

/-- A grant to a requester for some work. -/
def State.grant (s : State) (r : Requester) (work : StepWork) : State :=
  { s with order := granted r s.order, engine := some { work := work, inputs := s.inputs, discarded := false } }

/-- The grant of a port's waiting step, when its command is of the kind the row names: the port enters WORKING (R173). -/
def beginPortStep (p : PortId) (kind : PortCommand → Bool) (s : State) : State :=
  match (s.port p).phase with
  | .waiting cmd =>
    if kind cmd && s.mayGrant (requesterOf p) then (s.grant (requesterOf p) (.port p cmd)).setPhase p (.working cmd) else s
  | _ => s

end Sys2Proof.Machine
end

