-- ==== Sys2Proof/Machine/Compartments.lean ====
section
/-!
DEFINITION. Compartments, doors and defrost: the settings and what storing them does, door events, the defrost commands,
READ COMPARTMENT (chapter 3), and the service of probes that the settings decide (R54).
-/
namespace Sys2Proof.Machine

/-! ### Settings -/

/-- The carried settings, each clamped to its range (R49). -/
def Settings.clamped (v : Settings) : Settings :=
  { v with
    airOffset := clampInt (-Config.maxOffset) Config.maxOffset v.airOffset
    holdLimit := clampNat 0 Config.maxHold v.holdLimit
    doorLimit := clampNat Config.minTimeout Config.maxTimeout v.doorLimit
    ceiling := clampTemp v.ceiling }

/-- Whether clamping changed any value (R49). -/
def Settings.adjusted (v : Settings) : Bool := v.clamped != v

/-- The marks byte of some settings: bit 0 ACTIVE, bit 1 simulant fitted, bit 2 air fitted (R179). -/
def Settings.marks (v : Settings) : Byte :=
  (if v.active then 1 else 0) + (if v.simulant then 2 else 0) + (if v.air then 4 else 0)

/-- The 10 setting bytes in frame order (R180). -/
def Settings.bytes (v : Settings) : List Byte :=
  [v.marks] ++ intBytes v.airOffset ++ [natByte v.holdLimit] ++ beBytes 2 v.doorLimit ++ intBytes v.ceiling
    ++ [natByte v.shieldBase, natByte v.recoveryLength]

/-! ### Probes in and out of service (R54) -/

/-- The simulant and the air probe of a compartment (section 4.1). -/
def simulantProbe (c : CompNo) : ProbeNo := ⟨2 * c.val, by omega⟩
def airProbe (c : CompNo) : ProbeNo := ⟨2 * c.val + 1, by omega⟩

/-- The compartment a probe belongs to (section 4.1). -/
def probeComp (n : ProbeNo) : CompNo := ⟨n.val / 2, by omega⟩

/-- Whether a probe is fitted by some settings of its compartment. -/
def fittedIn (v : Settings) (n : ProbeNo) : Bool := if n.val % 2 = 0 then v.simulant else v.air

/-- Whether a probe is in service by its compartment's settings: fitted, and the compartment ACTIVE. -/
def servedBy (v : Settings) (n : ProbeNo) : Bool := v.active && fittedIn v n

def State.inService (s : State) (n : ProbeNo) : Bool := servedBy s.comps[probeComp n].settings n

/-- A probe that has just entered service: UNREAD with no last reading (R54). Its answered mark is cleared as well (DESIGN
CHOICE, log 36). -/
def Probe.entered : Probe := { status := .unread, reading := none, answered := false, steady := false }

/-- A probe whose service is `now` and was `before`. -/
def Probe.serve (before now : Bool) (x : Probe) : Probe :=
  if before = now then x else if now then .entered else .outOfService

/-- The probes of a compartment served by new settings in place of the old. -/
def serveProbes (c : CompNo) (before now : Settings) (probes : Vector Probe 8) : Vector Probe 8 :=
  put (put probes (simulantProbe c)
      (probes[simulantProbe c].serve (servedBy before (simulantProbe c)) (servedBy now (simulantProbe c))))
    (airProbe c) (probes[airProbe c].serve (servedBy before (airProbe c)) (servedBy now (airProbe c)))

/-! ### Into service, out of service, and settings stored in service -/

/-- A compartment's door state set from its line: an open line counts an opening and sets the deadline (R38, R53). -/
def Compartment.sampleDoor (x : Compartment) (now : RouteTime) (line : Bool) : Compartment :=
  { x with
    doorOpen := line
    openings := if line then x.openings + 1 else x.openings
    doorDeadline := if line then some (later now x.settings.doorLimit) else none }

/-- The opening snapshot: BLIND, span equal to the scan period, unshielded (R38). -/
def Compartment.withOpeningSnapshot (x : Compartment) (now : RouteTime) (period : Nat) : Compartment :=
  { x with
    snapshot := some { reading := .blind, span := period, doorOpen := x.doorOpen, shielded := false, takenAt := now } }

/-- A compartment that becomes ACTIVE with some settings (R38). -/
def Compartment.activate (x : Compartment) (v : Settings) (now : RouteTime) (line : Bool) (period : Nat) : Compartment :=
  Compartment.withOpeningSnapshot
    (Compartment.sampleDoor
      { x with settings := v, defrost := .normal, shieldLeft := 0, recoveryLeft := 0, held := 0, lastGood := none,
               keptSource := none, ceilingInForce := v.ceiling }
      now line)
    now period

/-- The OFF form with some settings (R35, R39): the settings, the door openings and the ceiling in force alone are kept. -/
def Compartment.switchOff (x : Compartment) (v : Settings) : Compartment :=
  { settings := v, defrost := .normal, shieldLeft := 0, recoveryLeft := 0, doorOpen := false, openings := x.openings,
    doorDeadline := none, lastGood := none, held := 0, keptSource := none, snapshot := none,
    ceilingInForce := x.ceilingInForce }

/-- Settings stored in a compartment that stays ACTIVE: the counters are brought within the new bounds (R48). -/
def Compartment.restore (x : Compartment) (v : Settings) : Compartment :=
  let recoveryLeft := min x.recoveryLeft v.recoveryLength
  if x.defrost = .recovery ∧ recoveryLeft = 0 then
    { x with settings := v, defrost := .normal, shieldLeft := 0, recoveryLeft := 0 }
  else { x with settings := v, shieldLeft := min x.shieldLeft v.shieldBase, recoveryLeft := recoveryLeft }

/-- A compartment after settings with mode ACTIVE are stored (R36, R38, R48). -/
def Compartment.store (x : Compartment) (v : Settings) (now : RouteTime) (line : Bool) (period : Nat) : Compartment :=
  if x.active then x.restore v else x.activate v now line period

/-- SET COMPARTMENT with mode ACTIVE storing its settings at acceptance (R49). -/
def State.storeActive (s : State) (c : CompNo) (v : Settings) : State :=
  { s with
    comps := put s.comps c (s.comps[c].store v s.clock s.doorLines[c] s.scanner.period)
    probes := serveProbes c s.comps[c].settings v s.probes }

/-- The compartment test step storing settings with mode OFF (R39, R50). -/
def State.storeOff (s : State) (c : CompNo) (v : Settings) : State :=
  { s with
    comps := put s.comps c (s.comps[c].switchOff v)
    probes := serveProbes c s.comps[c].settings v s.probes }

/-- SET COMPARTMENT's answer with the stored settings echoed (R49, R180). -/
def settingsAnswer (c : CompNo) (v : Settings) : Result :=
  answer rowSetCompartment (adjustedCode v.adjusted) (compByte c :: v.clamped.bytes)

/-- SET COMPARTMENT with mode OFF in its compartment test step (R50). It acts on the compartment as it stands at the step's
end, so it overwrites a store of mode ACTIVE accepted since the step began, after a PORT RESET (DESIGN CHOICE, log 34). -/
def setCompartmentOffWork (c : CompNo) (v : Settings) (s : State) : State × Result :=
  if 0 < s.occupancy[c] then (s, answer rowSetCompartment .compartmentInUse [])
  else (s.storeOff c v.clamped, settingsAnswer c v)

/-- SET COMPARTMENT at its close (R49, R50, R172). -/
def execSetCompartment (p : PortId) (bytes : List Byte) (s : State) : Host.Outcome State Fault Refusal :=
  .next (closeQueued rowSetCompartment p bytes
    (fun s =>
      match compField (byteAt 0 bytes) with
      | none => s.place p (answer rowSetCompartment .badCompartment [])
      | some c =>
        if (settingsField bytes).active then
          (s.storeActive c (settingsField bytes).clamped).place p (settingsAnswer c (settingsField bytes))
        else acceptWaiting p (.setCompartmentOff c (settingsField bytes)) s)
    s)

/-! ### Doors -/

def State.setDoorLine (s : State) (c : CompNo) (line : Bool) : State :=
  { s with doorLines := put s.doorLines c line }

/-- A compartment after its door opened (R40). -/
def Compartment.opened (x : Compartment) (now : RouteTime) : Compartment :=
  { x with doorOpen := true, openings := x.openings + 1, doorDeadline := some (later now x.settings.doorLimit) }

/-- A compartment after its door closed (R41). -/
def Compartment.shut (x : Compartment) : Compartment := { x with doorOpen := false, doorDeadline := none }

/-- A door line reaches the open level: a door event of an ACTIVE compartment on main power (R40). A line already open
does not change. -/
def execDoorOpens (c : CompNo) (s : State) : Host.Outcome State Fault Refusal :=
  .next
    (if s.doorLines[c] then s
     else if s.powered && s.comps[c].active then (s.setDoorLine c true).setComp c (s.comps[c].opened s.clock)
     else s.setDoorLine c true)

/-- A door line reaches the closed level (R41). -/
def execDoorCloses (c : CompNo) (s : State) : Host.Outcome State Fault Refusal :=
  .next
    (if !s.doorLines[c] then s
     else if s.powered && s.comps[c].active then (s.setDoorLine c false).setComp c s.comps[c].shut
     else s.setDoorLine c false)

/-- A door-long deadline reached while the door is OPEN raises DOOR_LONG and becomes absent (R42). -/
def execDoorLong (c : CompNo) (s : State) : Host.Outcome State Fault Refusal :=
  .next
    (if s.powered && s.comps[c].doorOpen && s.comps[c].doorDeadline.any (reached s.clock) then
      (s.setComp c { s.comps[c] with doorDeadline := none }).raise (compFlag .doorLong c)
     else s)

/-! ### Defrost -/

/-- The table of R44. -/
def Compartment.startDefrost (x : Compartment) : Compartment :=
  match x.defrost with
  | .normal => { x with defrost := .defrost, shieldLeft := x.settings.shieldBase, recoveryLeft := 0 }
  | .defrost => { x with recoveryLeft := 0 }
  | .recovery => { x with defrost := .defrost, shieldLeft := x.settings.shieldBase, recoveryLeft := 0 }

/-- The table of R45. -/
def Compartment.endDefrost (x : Compartment) : Compartment :=
  match x.defrost with
  | .normal => x
  | .defrost =>
    if 0 < x.settings.recoveryLength then { x with defrost := .recovery, recoveryLeft := x.settings.recoveryLength }
    else { x with defrost := .normal, shieldLeft := 0, recoveryLeft := 0 }
  | .recovery => x

/-- A defrost command carried out at acceptance: refused with BAD_COMPARTMENT unless it names an ACTIVE compartment
(R44, R45). -/
def defrostCommand (row : CommandRow) (p : PortId) (b : Byte) (f : Compartment → Compartment) (s : State) : State :=
  match activeField s.comps b with
  | some c => (s.setComp c (f s.comps[c])).place p (answer row .ok [])
  | none => s.place p (answer row .badCompartment [])

/-- DEFROST START at its close (R44). -/
def execDefrostStart (p : PortId) (bytes : List Byte) (s : State) : Host.Outcome State Fault Refusal :=
  .next (closeQueued rowDefrostStart p bytes
    (defrostCommand rowDefrostStart p (byteAt 0 bytes) Compartment.startDefrost) s)

/-- DEFROST END at its close (R45). -/
def execDefrostEnd (p : PortId) (bytes : List Byte) (s : State) : Host.Outcome State Fault Refusal :=
  .next (closeQueued rowDefrostEnd p bytes
    (defrostCommand rowDefrostEnd p (byteAt 0 bytes) Compartment.endDefrost) s)

/-! ### READ COMPARTMENT -/

/-- A reading's source. -/
def Reading.source : Reading → Source
  | .simulant _ => .simulant
  | .air _ => .air
  | .held _ => .held
  | .blind => .blind

/-- A reading's temperature; absent when BLIND. -/
def Reading.temp : Reading → Option Int
  | .simulant t => some t
  | .air t => some t
  | .held t => some t
  | .blind => none

/-- The snapshot group of READ COMPARTMENT before the ceiling in force: source, T, span, marks, taken-at; the form R51
gives when the snapshot is absent. -/
def snapshotBytes : Option Snapshot → List Byte
  | some n =>
    [n.reading.source.byte] ++ tempBytes n.reading.temp ++ beBytes 2 n.span
      ++ [boolByte n.doorOpen + (if n.shielded then 2 else 0)] ++ beBytes 4 n.takenAt.toNat
  | none => [Source.blind.byte] ++ tempBytes none ++ beBytes 2 0 ++ [0] ++ beBytes 4 0

/-- READ COMPARTMENT's 35 data bytes (R51, R180). -/
def State.compReport (s : State) (c : CompNo) : List Byte :=
  let x := s.comps[c]
  compByte c :: (x.settings.bytes
    ++ [x.defrost.byte, natByte x.shieldLeft, natByte x.recoveryLeft, boolByte x.doorOpen]
    ++ beBytes 2 x.openings.toNat ++ beBytes 2 (x.doorDeadline.elim 0 (secondsTo s.clock)) ++ tempBytes x.lastGood
    ++ [natByte x.held, natByte s.occupancy[c]] ++ snapshotBytes x.snapshot ++ intBytes x.ceilingInForce)

/-- READ COMPARTMENT at its close (R51). -/
def execReadCompartment (p : PortId) (bytes : List Byte) (s : State) : Host.Outcome State Fault Refusal :=
  .next (closeQueued rowReadCompartment p bytes
    (fun s =>
      match compField (byteAt 0 bytes) with
      | some c => s.place p (answer rowReadCompartment .ok (s.compReport c))
      | none => s.place p (answer rowReadCompartment .badCompartment []))
    s)

end Sys2Proof.Machine
end

