-- ==== Sys2Proof/Machine/Scanning.lean ====
section
/-!
DEFINITION. Probe scanning and compartment readings: the schedule, the poll, the forming of snapshots, SET SCAN PERIOD
and READ SCAN (chapter 4).
-/
namespace Sys2Proof.Machine

/-! ### Forming one snapshot (R47, R63 to R66) -/

/-- The source and temperature of a snapshot (R64), with the last good reading and the held count after. `sim` and `air`
are the readings that take part. -/
def Compartment.select (x : Compartment) (sim air : Option Int) : Reading × Option Int × Nat :=
  match sim with
  | some t => (.simulant t, some t, 0)
  | none =>
    match if !x.doorOpen && x.defrost != .defrost then air else none with
    | some a => (.air (clampTemp (a + x.settings.airOffset)), some (clampTemp (a + x.settings.airOffset)), 0)
    | none =>
      match x.lastGood with
      | some g => if x.held < x.settings.holdLimit then (.held g, some g, x.held + 1) else (.blind, some g, x.held)
      | none => (.blind, none, x.held)

/-- The condition a change of kept source raises for a compartment (R65). -/
def sourceFlag (c : CompNo) (kept : Option Source) (new : Source) : FlagSet :=
  match new with
  | .held => flagIf (kept == some .simulant || kept == some .air) (compFlag .held c)
  | .blind => flagIf (kept != some .blind) (compFlag .blind c)
  | .simulant => 0
  | .air => 0

/-- Whether a snapshot formed now is shielded (R47). -/
def Compartment.shieldsNext (x : Compartment) : Bool := x.defrost != .normal && decide (0 < x.shieldLeft)

/-- The shield decision and then the recovery countdown (R47). -/
def Compartment.countDown (x : Compartment) : Compartment :=
  let shieldLeft := if x.shieldsNext then x.shieldLeft - 1 else x.shieldLeft
  if x.defrost = .recovery then
    if x.recoveryLeft - 1 = 0 then { x with defrost := .normal, shieldLeft := 0, recoveryLeft := 0 }
    else { x with shieldLeft := shieldLeft, recoveryLeft := x.recoveryLeft - 1 }
  else { x with shieldLeft := shieldLeft }

/-- Whether forming a snapshot now raises SHIELD_SPENT (R47). -/
def Compartment.spendsShield (x : Compartment) : Bool :=
  x.shieldsNext && x.shieldLeft == 1 && x.countDown.defrost != .normal

/-- A compartment after its snapshot is formed at a scan. -/
def Compartment.form (x : Compartment) (sim air : Option Int) (span : Nat) (now : RouteTime) : Compartment :=
  let chosen := x.select sim air
  { x.countDown with
    lastGood := chosen.2.1
    held := chosen.2.2
    keptSource := some chosen.1.source
    snapshot := some
      { reading := chosen.1, span := span, doorOpen := x.doorOpen, shielded := x.shieldsNext, takenAt := now }
    ceilingInForce := x.settings.ceiling }

/-- The conditions that forming a compartment's snapshot raises (R47, R65). -/
def Compartment.formFlags (x : Compartment) (c : CompNo) (sim air : Option Int) : FlagSet :=
  sourceFlag c x.keptSource (x.select sim air).1.source ||| flagIf x.spendsShield (compFlag .shieldSpent c)

/-! ### Forming the snapshots of a scan (R63) -/

/-- A probe's reading when it takes part: in service, and valid for the scan (R56, R64). -/
def State.partReading (s : State) (n : ProbeNo) : Option Int :=
  let x := s.probes[n]
  if s.inService n && x.answered && (x.status == .good || x.status == .clamped) then x.reading else none

/-- A compartment after the forming of a scan's snapshots; an OFF one stays as it is. -/
def State.formedComp (s : State) (span : Nat) (c : CompNo) : Compartment :=
  if s.comps[c].active then
    s.comps[c].form (s.partReading (simulantProbe c)) (s.partReading (airProbe c)) span s.clock
  else s.comps[c]

/-- The conditions a compartment raises at the forming. -/
def State.formedFlags (s : State) (c : CompNo) : FlagSet :=
  flagIf s.comps[c].active
    (s.comps[c].formFlags c (s.partReading (simulantProbe c)) (s.partReading (airProbe c)))

/-- The forming of a scan's snapshots: each ACTIVE compartment's, then the tag, last snapshot time, and the request of
the accrual pass, which starts at slot 0 (R63, R71). -/
def State.formSnapshots (s : State) : State :=
  State.raise
    { s with
      comps := Vector.ofFn (s.formedComp (s.scanner.span.getD 0))
      scanner := { s.scanner with tag := s.scanner.tag + 1, phase := .charging }
      lastSnapshotTime := s.clock
      exposure := { s.exposure with passTag := some (s.scanner.tag + 1), accrualCursor := 0 } }
    (s.formedFlags 0 ||| s.formedFlags 1 ||| s.formedFlags 2 ||| s.formedFlags 3)

/-- After a poll ends, or when a scan starts: the next listed probe is polled, or the snapshots are formed. -/
def State.formIfPolled (s : State) : State := if s.scanner.toPoll = [] then s.formSnapshots else s

/-- The scan list: every probe in service, in ascending order (R60). -/
def State.scanList (s : State) : List ProbeNo := (List.finRange 8).filter s.inService

/-- A scan starts (R60). -/
def State.startScan (s : State) : State :=
  State.formIfPolled
    { s with
      probes := Vector.ofFn (fun n => { s.probes[n] with answered := false, steady := s.inService n })
      scanner :=
        { s.scanner with
          phase := .polling, list := s.scanList, toPoll := s.scanList
          span := some (s.scanner.periodInForce * (1 + s.scanner.lag)), lag := 0 } }

/-- The end report of an accrual pass: IDLE, or a late scan at once when ticks were missed (R62). The scan list of the scan
that has ended stays in its field in IDLE (DESIGN CHOICE, log 11). -/
def State.passEnded (s : State) : State :=
  if 0 < s.scanner.lag then State.startScan { s with scanner := { s.scanner with phase := .idle, span := none } }
  else { s with scanner := { s.scanner with phase := .idle, span := none } }

/-! ### The schedule (R58, R61) -/

/-- The route time one period after another. -/
def periodAfter (t : RouteTime) (period : Nat) : RouteTime := later t (period * Config.stepSeconds)

/-- A tick reached at `t`: the scan period comes in force and the next tick is set (R58). -/
def State.takeTick (s : State) (t : RouteTime) : State :=
  { s with
    scanner :=
      { s.scanner with periodInForce := s.scanner.period, nextTick := some (periodAfter t s.scanner.period) } }

/-- A tick missed: lag rises, saturating, and OVERRUN is raised (R61). -/
def State.missTick (s : State) : State :=
  State.raise { s with scanner := { s.scanner with lag := min Config.maxLag (s.scanner.lag + 1) } } overrunFlag

/-- SCAN_TICK: a reached tick starts a scan in IDLE and is counted as missed otherwise (R58). -/
def execScanTick (s : State) : Host.Outcome State Fault Refusal :=
  .next
    (match s.scanner.nextTick with
     | some t =>
       if s.powered && reached s.clock t then
         if s.scanner.phase = .idle then (s.takeTick t).startScan else (s.takeTick t).missTick
       else s
     | none => s)

/-! ### The poll (R55 to R57) -/

/-- The outcome of a poll. -/
inductive PollOutcome where
  | temperature (t : Int)
  | openElement
  | shortElement
  | silent
deriving DecidableEq, Repr

/-- The outcome an answer frame's contents give; the temperature is a signed 16-bit number. -/
def answerOutcome : Answer → PollOutcome
  | .temperature t => .temperature t.toInt
  | .openElement => .openElement
  | .shortElement => .shortElement

/-- Whether a status is a fault (section 4.1). -/
def ProbeStatus.isFault : ProbeStatus → Bool
  | .absent => false
  | .unread => false
  | .good => false
  | .clamped => false
  | .openElement => true
  | .shortElement => true
  | .silent => true

/-- The status a recorded outcome sets (R56). -/
def PollOutcome.status : PollOutcome → ProbeStatus
  | .temperature t => if Config.tempMin ≤ t ∧ t ≤ Config.tempMax then .good else .clamped
  | .openElement => .openElement
  | .shortElement => .shortElement
  | .silent => .silent

/-- The last reading a recorded outcome sets (R56). -/
def PollOutcome.reading : PollOutcome → Option Int
  | .temperature t => some (clampTemp t)
  | .openElement => none
  | .shortElement => none
  | .silent => none

/-- A probe after an outcome is recorded (R56). -/
def Probe.record (x : Probe) (o : PollOutcome) : Probe :=
  { x with status := o.status, reading := o.reading, answered := true }

/-- An outcome recorded for a probe that is in service and has stayed so since the scan started, with FAULT raised when
it moves the probe into a fault; dropped otherwise (R56, R57). -/
def State.recordOutcome (s : State) (n : ProbeNo) (o : PollOutcome) : State :=
  if s.inService n && s.probes[n].steady then
    State.raise { s with probes := put s.probes n (s.probes[n].record o) }
      (flagIf (!s.probes[n].status.isFault && o.status.isFault) (compFlag .fault (probeComp n)))
  else s

/-- The poll of the first probe still to be polled ends with an outcome. -/
def State.endPoll (s : State) (n : ProbeNo) (rest : List ProbeNo) (o : PollOutcome) : State :=
  let s := s.recordOutcome n o
  State.formIfPolled { s with scanner := { s.scanner with toPoll := rest } }

/-- The probe being polled, with those that follow it. -/
def State.polling (s : State) : Option (ProbeNo × List ProbeNo) :=
  if s.powered && s.scanner.phase == .polling then
    match s.scanner.toPoll with
    | n :: rest => some (n, rest)
    | [] => none
  else none

/-- PROBE_ANSWER: a correct answer frame of the probe being polled ends its poll. A frame whose check does not agree
counts as no answer, and one from a probe whose poll has ended is ignored (R55). -/
def execProbeAnswer (n : ProbeNo) (a : Answer) (checkAgrees : Bool) (s : State) : Host.Outcome State Fault Refusal :=
  .next
    (match s.polling with
     | some (m, rest) => if m = n ∧ checkAgrees then s.endPoll n rest (answerOutcome a) else s
     | none => s)

/-- PROBE_SILENT: the answer window of the probe being polled ends (R55). -/
def execProbeSilent (s : State) : Host.Outcome State Fault Refusal :=
  .next
    (match s.polling with
     | some (m, rest) => s.endPoll m rest .silent
     | none => s)

/-! ### SET SCAN PERIOD and READ SCAN -/

/-- A carried scan period clamped to 1..50 (R59). -/
def clampPeriod (b : Byte) : Nat := clampNat Config.minPeriod Config.maxPeriod b.toNat

def State.setScanPeriod (s : State) (n : Nat) : State := { s with scanner := { s.scanner with period := n } }

/-- SET SCAN PERIOD at its close (R59). -/
def execSetScanPeriod (p : PortId) (bytes : List Byte) (s : State) : Host.Outcome State Fault Refusal :=
  .next (closeQueued rowSetScanPeriod p bytes
    (fun s =>
      (s.setScanPeriod (clampPeriod (byteAt 0 bytes))).place p
        (answer rowSetScanPeriod (adjustedCode (clampPeriod (byteAt 0 bytes) != (byteAt 0 bytes).toNat))
          [natByte (clampPeriod (byteAt 0 bytes))]))
    s)

/-- A probe's three bytes in READ SCAN. -/
def Probe.bytes (x : Probe) : List Byte := x.status.byte :: tempBytes x.reading

/-- READ SCAN's 38 data bytes (R68, R180; seconds to a tick that is reached and not yet taken: log 14). -/
def State.scanReport (s : State) : List Byte :=
  [natByte s.scanner.period, natByte s.scanner.periodInForce]
    ++ beBytes 2 (s.scanner.nextTick.elim 0 (secondsTo s.clock)) ++ [s.scanner.phase.byte]
    ++ beBytes 2 s.scanner.lag ++ [natByte s.scanner.tag.toNat] ++ beBytes 4 s.lastSnapshotTime.toNat
    ++ beBytes 2 (s.scanner.span.getD 0) ++ (List.finRange 8).flatMap (fun n => s.probes[n].bytes)

/-- READ SCAN at its close (R68). -/
def execReadScan (p : PortId) (bytes : List Byte) (s : State) : Host.Outcome State Fault Refusal :=
  .next (closeQueued rowReadScan p bytes (fun s => s.place p (answer rowReadScan .ok s.scanReport)) s)

end Sys2Proof.Machine
end

