-- ==== Sys2Proof/Machine/Exposure.lean ====
section
/-!
DEFINITION. Exposure accounting: the charge of section 5.2, the accrual visit (chapter 5) and the gap visit (section
10.4), each with what ends its pass.
-/
namespace Sys2Proof.Machine

/-! ### The charge (section 5.2) -/

/-- Stage 2: the peaks widened by T (R79). -/
def Record.widen (r : Record) (t : Int) : Record :=
  { r with peakHigh := some (r.peakHigh.elim t (max t)), peakLow := some (r.peakLow.elim t (min t)) }

/-- Stage 4: the effective temperature (R81). -/
def effectiveTemp (k : ClassLimits) (ceilingInForce : Int) (shielded : Bool) (t : Int) : Int :=
  if shielded ∧ t ≤ ceilingInForce then min t k.upper else t

/-- The warm excess of an effective temperature (R82). -/
def warmExcess (k : ClassLimits) (te : Int) : Nat := (te - k.upper).toNat

/-- The cold excess of a temperature; 0 for a class without L (R83). -/
def coldExcess (k : ClassLimits) (t : Int) : Nat :=
  match k.low with
  | some l => (l.lower - t).toNat
  | none => 0

/-- Stages 5 to 7: the warm charge, the cold charge and the excursion time of a temperature (R82 to R84). -/
def Record.expose (r : Record) (k : ClassLimits) (ceilingInForce : Int) (n : Snapshot) (t : Int) : Record :=
  let ew := warmExcess k (effectiveTemp k ceilingInForce n.shielded t)
  let ec := coldExcess k t
  { r with
    warm := satAdd Config.maxExposure r.warm (ew * n.span)
    cold := satAdd Config.maxExposure r.cold (ec * n.span)
    excursion :=
      if 0 < ew ∨ 0 < ec then satAdd Config.maxSeconds r.excursion (Config.stepSeconds * n.span) else r.excursion }

/-- Blind seconds added (R78, R155). -/
def Record.addBlind (r : Record) (seconds : Nat) : Record :=
  { r with blind := satAdd Config.maxSeconds r.blind seconds }

/-- Stages 1 to 8: the record's figures after the charge, and the verdicts reached. -/
def Record.chargeFigures (r : Record) (k : ClassLimits) (ceilingInForce : Int) (n : Snapshot) :
    Record × List ReasonCause :=
  match n.reading.temp with
  | none =>
    let r' := r.addBlind (Config.stepSeconds * n.span)
    (r', blindTest k r'.blind)
  | some t =>
    let r' := (r.widen t).expose k ceilingInForce n t
    (r', hardHighTest k t ++ hardLowTest k t ++ budgetTests k r'.warm r'.cold)

/-- The whole charge of a live record: stage 9 sets its charged tag and applies the verdicts reached (R86). -/
def Record.charge (r : Record) (l : LiveFields) (k : ClassLimits) (ceilingInForce : Int) (n : Snapshot) (g : ScanTag) :
    Record × FlagSet :=
  let figures := r.chargeFigures k ceilingInForce n
  applyReached figures.2 (figures.1.withLive { l with tag := g })

/-- A slot's record after an accrual visit at tag g, with the flags the visit raises (R73, R74). A live record's class
is SET and its compartment holds a snapshot; should either be missing, the slot is passed over (log 32). -/
def accrualVisited (inp : StepInputs) (classes : Vector (Option ClassLimits) 8) (g : ScanTag) (r : Record) :
    Record × FlagSet :=
  match r.live, classes[r.cls], inp.comps[r.comp].snapshot with
  | some l, some k, some n => if l.tag = g then (r, 0) else r.charge l k inp.comps[r.comp].ceilingInForce n g
  | _, _, _ => (r, 0)

/-- The record of a slot changed by a visit, with the flags raised. -/
def State.visitSlot (s : State) (i : SlotNo) (f : Record → Record × FlagSet) : State :=
  match s.slots[i] with
  | some r => (s.setSlot i (some (f r).1)).raise (f r).2
  | none => s

/-- The work of the accrual visit at the cursor. -/
def accrualWork (inp : StepInputs) (s : State) : State :=
  match s.exposure.passTag with
  | some g => s.visitSlot s.exposure.accrualCursor (accrualVisited inp s.classes g)
  | none => s

/-- After an accrual visit: the next slot's visit waits, or the pass ends and reports (R72). -/
def State.accrualAdvance (s : State) : State :=
  if h : s.exposure.accrualCursor.val + 1 < 128 then
    { s with exposure := { s.exposure with accrualCursor := ⟨s.exposure.accrualCursor.val + 1, h⟩ } }
  else State.passEnded { s with exposure := { s.exposure with accrualCursor := 0, passTag := none } }

/-! ### The gap pass (R155 to R157) -/

/-- A live record charged with the gap: its blind seconds, the blind test, and the current tag (R97, R155). -/
def Record.chargeGap (r : Record) (l : LiveFields) (k : ClassLimits) (amount : Nat) (tag : ScanTag) : Record × FlagSet :=
  let r' := (r.addBlind amount).withLive { l with tag := tag }
  applyReached (blindTest k r'.blind) r'

/-- A slot's record after a gap visit that does not pass it over as exempt. -/
def gapVisited (inp : StepInputs) (classes : Vector (Option ClassLimits) 8) (amount : Nat) (r : Record) :
    Record × FlagSet :=
  match r.live, classes[r.cls] with
  | some l, some k => r.chargeGap l k amount inp.tag
  | _, _ => (r, 0)

/-- The work of the gap visit at the cursor: a slot of the exemption set leaves it and is passed over (R155). -/
def gapWork (inp : StepInputs) (s : State) : State :=
  if s.exposure.gapExempt[s.exposure.gapCursor] then
    { s with exposure := { s.exposure with gapExempt := put s.exposure.gapExempt s.exposure.gapCursor false } }
  else s.visitSlot s.exposure.gapCursor (gapVisited inp s.classes s.exposure.gapAmount.toNat)

/-- Whether the gap visit at the cursor is the pass's last. -/
def State.lastGapVisit (s : State) : Bool := s.exposure.gapCursor.val == 127

/-- The gap pass complete (R157): last snapshot time, the exemption set, the gap end, the lapse release, the next tick. The
gap-pass cursor goes back to 0, and the gap amount stays in its field (DESIGN CHOICE, log 33). -/
def State.gapEnded (s : State) : State :=
  State.retestHead
    { s with
      lastSnapshotTime := s.exposure.gapEnd.getD s.lastSnapshotTime
      exposure :=
        { s.exposure with gapEnd := none, gapCursor := 0, gapExempt := Vector.replicate 128 false }
      lapseHeld := false
      scanner :=
        { s.scanner with nextTick := some (periodAfter s.clock s.scanner.periodInForce) } }

/-- After a gap visit: the next slot's visit waits, or the pass is complete. -/
def State.gapAdvance (s : State) : State :=
  if h : s.exposure.gapCursor.val + 1 < 128 then
    { s with exposure := { s.exposure with gapCursor := ⟨s.exposure.gapCursor.val + 1, h⟩ } }
  else s.gapEnded

end Sys2Proof.Machine
end

