-- ==== Sys2Proof/Machine/Statements.lean ====
section
/-!
DEFINITION. The record summary (R15, R181), the statement in its two forms (R139 to R141, R182), and the reading of a
presented statement (R100, R107, R109).
-/
namespace Sys2Proof.Machine

/-! ### The record summary -/

/-- Seconds to deadline of a record (R15): 0 unless it is OFFERED and its deadline is not reached. -/
def secondsToDeadline (now : RouteTime) : Custody → Nat
  | .aboard _ => 0
  | .offered _ d => secondsTo now d
  | .closed _ => 0

/-- The 32 bytes of a record summary (R181). -/
def summaryBytes (now : RouteTime) (i : SlotNo) (r : Record) : List Byte :=
  [natByte i.val, r.custody.byte, natByte r.cls.val, compByte r.comp, r.verdict.byte, r.cause.byte]
    ++ idBytes r.id ++ beBytes 4 r.warm ++ beBytes 4 r.cold ++ beBytes 4 r.blind
    ++ beBytes 2 (secondsToDeadline now r.custody)

/-! ### The statement -/

/-- The limits and budgets a closing step copies from a class (R137). -/
def ClassLimits.copy (k : ClassLimits) : LimitsCopy :=
  { upper := k.upper, hard := k.hard, low := k.low, warmBudget := k.warmBudget, coldBudget := k.coldBudget }

/-- The cause a statement carries: never CARRIED (R102). -/
def Record.statementCause (r : Record) : Cause :=
  match r.cause with
  | .carried => r.carriedCause.elim .nothing .reason
  | .nothing => .nothing
  | .reason c => .reason c

/-- The flags byte of a statement: bit 0 provisional, bit 1 carried (R182). -/
def statementFlags (provisional carried : Bool) : Byte := (if provisional then 1 else 0) + (if carried then 2 else 0)

/-- U, H, L and F as four signed 16-bit numbers, with −32768 for an absent L and F. -/
def limitBytes (upper hard : Int) (low : Option LowLimits) : List Byte :=
  intBytes upper ++ intBytes hard ++ tempBytes (low.map (·.lower)) ++ tempBytes (low.map (·.floor))

/-- The fields of a statement that differ between its two forms (the table of section 9.4). -/
structure StatementForm where
  provisional : Bool
  closingUnit : Half
  receiver : Wide
  limits : LimitsCopy
  door : Nat
  period : Nat
  closeTime : RouteTime

/-- The 74 bytes of a statement before the check word (R182). -/
def statementBody (r : Record) (f : StatementForm) : List Byte :=
  [1, statementFlags f.provisional (r.cause == .carried), r.verdict.byte, r.statementCause.byte]
    ++ idBytes r.id ++ beBytes 2 f.closingUnit.toNat ++ beBytes 2 (r.carriedFrom.getD 0).toNat
    ++ beBytes 4 f.receiver.toNat ++ [natByte r.cls.val, compByte r.comp]
    ++ limitBytes f.limits.upper f.limits.hard f.limits.low
    ++ beBytes 4 f.limits.warmBudget ++ beBytes 4 f.limits.coldBudget ++ beBytes 4 r.warm ++ beBytes 4 r.cold
    ++ beBytes 4 r.excursion ++ beBytes 4 r.blind ++ tempBytes r.peakHigh ++ tempBytes r.peakLow ++ beBytes 2 f.door
    ++ [natByte r.lapses, natByte f.period] ++ beBytes 4 r.admittedAt.toNat ++ beBytes 4 f.closeTime.toNat

/-- The form of a CLOSED record's statement. -/
def ClosedFields.form (f : ClosedFields) : StatementForm :=
  { provisional := false, closingUnit := f.closingUnit, receiver := f.receiver, limits := f.limits, door := f.doorFinal,
    period := f.scanPeriod, closeTime := f.closeTime }

/-- The closed statement of a record: its body and the stored check word (R139). -/
def closedStatement (r : Record) (f : ClosedFields) : List Byte :=
  statementBody r f.form ++ beBytes 2 f.checkWord.toNat

/-- The provisional statement of a live record of a class, with its door exposures and the scan period stored (R141). -/
def provisionalStatement (r : Record) (k : ClassLimits) (door period : Nat) : List Byte :=
  statementBody r
      { provisional := true, closingUnit := 0, receiver := 0, limits := k.copy, door := door, period := period,
        closeTime := 0 }
    ++ beBytes 2 0

/-! ### A presented statement -/

/-- The closing unit field of a presented statement. -/
def presentedUnit (st : List Byte) : Half := BitVec.ofNat 16 (natAt 16 2 st)

/-- Whether a presented statement verifies (R107). -/
def verifies (st : List Byte) : Bool :=
  byteAt 0 st == 1 && !(byteAt 1 st).getLsbD 0 && presentedUnit st != 0 && natAt 74 2 st == checkWordOfBytes st

/-- The consignment ID a statement holds. -/
def presentedId (st : List Byte) : ConsignmentId := BitVec.ofNat 96 (natAt 4 12 st)

/-- A peak as a carried admission takes it: absent at the marker, else clamped (R109). -/
def presentedPeak (t : Int) : Option Int := if t = Config.absentTemp then none else some (clampTemp t)

/-- The verdict a verdict field names; one that names none is read as BROKEN (R100). -/
def presentedVerdict (b : Byte) : Verdict :=
  match b.toNat with
  | 0 => .intact
  | 1 => .watch
  | 2 => .unproven
  | _ => .broken

/-- The reason cause a cause field names, if any. -/
def reasonOfByte (b : Byte) : Option ReasonCause :=
  [ReasonCause.watchWarm, .watchCold, .blind, .hardHigh, .hardLow, .warmBudget, .coldBudget].find? (·.byte == b)

/-- The carried reason cause (R100): the one the cause field names when it names the verdict read, else the first in the
cause order whose verdict equals it; none at INTACT. -/
def presentedCause (v : Verdict) (b : Byte) : Option ReasonCause :=
  ((reasonOfByte b).filter (·.verdict == v)).or (causeOrder.find? (·.verdict == v))

end Sys2Proof.Machine
end

