-- ==== Sys2Proof/Machine/Admission.lean ====
section
/-!
DEFINITION. Taking consignments aboard: ADMIT in its two forms and DISCARD (chapter 7).
-/
namespace Sys2Proof.Machine

/-- The checks 2 to 6 of R104, in their order, on an ID, a compartment field and a class: the compartment and the slot
to take, or the refusal. -/
def State.admitChecks (s : State) (inp : StepInputs) (id : ConsignmentId) (cls : ClassNo) (comp : Byte) :
    Except ResultCode (CompNo × ClassLimits × SlotNo) :=
  if id = 0 then .error .badId
  else match activeField inp.comps comp with
    | none => .error .badCompartment
    | some c =>
      match s.classes[cls] with
      | none => .error .classUnset
      | some k =>
        if (s.findId id).isSome then .error .duplicate
        else match s.firstFree with
          | none => .error .tableFull
          | some i => .ok (c, k, i)

/-- The live fields of a new record (R106). -/
def newLive (inp : StepInputs) (c : CompNo) (stored : Nat) : LiveFields :=
  { doorStored := stored, doorBase := inp.comps[c].openings, tag := inp.tag }

/-- The record of a fresh admission (R106). -/
def freshRecord (inp : StepInputs) (id : ConsignmentId) (cls : ClassNo) (c : CompNo) : Record :=
  { id := id, cls := cls, comp := c, admittedAt := inp.now, warm := 0, cold := 0, excursion := 0, blind := 0,
    peakHigh := none, peakLow := none, lapses := 0, verdict := .intact, cause := .nothing, carriedCause := none,
    carriedFrom := none, custody := .aboard (newLive inp c 0) }

/-- The record of a carried admission before its verdict (R106, R109). -/
def carriedFigures (inp : StepInputs) (st : List Byte) (cls : ClassNo) (c : CompNo) : Record :=
  { id := presentedId st, cls := cls, comp := c, admittedAt := inp.now,
    warm := min Config.maxExposure (natAt 42 4 st), cold := min Config.maxExposure (natAt 46 4 st),
    excursion := natAt 50 4 st, blind := natAt 54 4 st,
    peakHigh := presentedPeak (intAt 58 st), peakLow := presentedPeak (intAt 60 st),
    lapses := min Config.maxLapses (natAt 64 1 st), verdict := .intact, cause := .nothing, carriedCause := none,
    carriedFrom := some (presentedUnit st), custody := .aboard (newLive inp c (natAt 62 2 st)) }

/-- The verdicts the evaluation of a carried record reaches under the local class (R98). -/
def carriedTests (k : ClassLimits) (r : Record) : List ReasonCause :=
  blindTest k r.blind ++ r.peakHigh.elim [] (hardHighTest k) ++ r.peakLow.elim [] (hardLowTest k)
    ++ budgetTests k r.warm r.cold

/-- The evaluated verdict: the highest reached, or INTACT (R98). -/
def evaluatedVerdict (reached : List ReasonCause) : Verdict := highestReached .intact reached

/-- The evaluated cause: the first reason cause of the evaluated verdict, or NONE (R98). -/
def evaluatedCause (reached : List ReasonCause) : Cause :=
  (firstCause (evaluatedVerdict reached) reached).elim .nothing .reason

/-- The verdict, cause and carried cause of a carried record (R99), from the carried verdict and reason cause and the
verdicts reached. -/
def judgeCarried (v : Verdict) (carried : Option ReasonCause) (reached : List ReasonCause) (r : Record) : Record :=
  if (evaluatedVerdict reached).rank < v.rank then
    { r with verdict := v, cause := .carried, carriedCause := carried }
  else { r with verdict := evaluatedVerdict reached, cause := evaluatedCause reached, carriedCause := none }

/-- The record of a carried admission (R109, R110). -/
def carriedRecord (inp : StepInputs) (st : List Byte) (cls : ClassNo) (k : ClassLimits) (c : CompNo) : Record :=
  let r := carriedFigures inp st cls c
  let v := presentedVerdict (byteAt 2 st)
  judgeCarried v (presentedCause v (byteAt 3 st)) (carriedTests k r) r

/-- A slot admitted during the gap pass at or above its cursor enters the gap exemption set (R156). -/
def State.exemptFromGap (s : State) (i : SlotNo) : State :=
  if s.exposure.gapEnd.isSome && decide (s.exposure.gapCursor.val ≤ i.val) then
    { s with exposure := { s.exposure with gapExempt := put s.exposure.gapExempt i true } }
  else s

/-- A new record written whole into a slot, with its counts, its gap exemption and the flag of its verdict (R104, R99). -/
def State.takeAboard (s : State) (i : SlotNo) (r : Record) : State :=
  (((s.setSlot i (some r)).countIn r.cls r.comp).exemptFromGap i).raise (verdictFlag r.verdict r.comp)

/-- ADMIT's answer for a record taken aboard (R104, R180). -/
def admittedAnswer (row : CommandRow) (i : SlotNo) (r : Record) : Result :=
  answer row .ok [natByte i.val, r.verdict.byte, r.cause.byte]

/-- A refused admission: TABLE_FULL alone raises its condition (R7, R104). -/
def refuseAdmission (row : CommandRow) (code : ResultCode) (s : State) : State × Result :=
  (if code = .tableFull then s.raise tableFullFlag else s, answer row code [])

/-- The fresh form in its admit step (R104, R106). -/
def admitFreshWork (inp : StepInputs) (id : ConsignmentId) (cls : ClassNo) (comp : Byte) (s : State) : State × Result :=
  match s.admitChecks inp id cls comp with
  | .error code => refuseAdmission rowAdmitFresh code s
  | .ok (c, _, i) =>
    (s.takeAboard i (freshRecord inp id cls c), admittedAnswer rowAdmitFresh i (freshRecord inp id cls c))

/-- The carried form in its admit step: the statement verifies before any other check (R104, R107, R109, R110). -/
def admitCarriedWork (inp : StepInputs) (st : List Byte) (cls : ClassNo) (comp : Byte) (s : State) : State × Result :=
  if verifies st then
    match s.admitChecks inp (presentedId st) cls comp with
    | .error code => refuseAdmission rowAdmitCarried code s
    | .ok (c, k, i) =>
      (s.takeAboard i (carriedRecord inp st cls k c),
        admittedAnswer rowAdmitCarried i (carriedRecord inp st cls k c))
  else refuseAdmission rowAdmitCarried .badStatement s

/-- DISCARD in its discard step (R111). -/
def discardWork (id : ConsignmentId) (s : State) : State × Result :=
  match s.findRecord id with
  | none => (s, answer rowDiscard .notFound [])
  | some (i, r) =>
    match r.custody with
    | .aboard _ => ((s.setSlot i none).countOut r.cls r.comp, answer rowDiscard .ok [natByte i.val])
    | .offered _ _ => (s, answer rowDiscard .wrongState [])
    | .closed _ => (s, answer rowDiscard .wrongState [])

/-- ADMIT, fresh, at its close (R106, R172). -/
def execAdmitFresh (p : PortId) (bytes : List Byte) (s : State) : Host.Outcome State Fault Refusal :=
  .next (closeQueued rowAdmitFresh p bytes
    (acceptWaiting p (.admitFresh (idField bytes) (classField (byteAt 12 bytes)) (byteAt 13 bytes))) s)

/-- ADMIT, carried, at its close (R109, R172). -/
def execAdmitCarried (p : PortId) (bytes : List Byte) (s : State) : Host.Outcome State Fault Refusal :=
  .next (closeQueued rowAdmitCarried p bytes
    (acceptWaiting p (.admitCarried (slice 0 76 bytes) (classField (byteAt 76 bytes)) (byteAt 77 bytes))) s)

/-- DISCARD at its close (R111, R172). -/
def execDiscard (p : PortId) (bytes : List Byte) (s : State) : Host.Outcome State Fault Refusal :=
  .next (closeQueued rowDiscard p bytes (acceptWaiting p (.discard (idField bytes))) s)

end Sys2Proof.Machine
end

