-- ==== Sys2Proof/Machine/Classes.lean ====
section
/-!
DEFINITION. Product classes: SET CLASS in its two forms and READ CLASS (chapter 2).
-/
namespace Sys2Proof.Machine

/-- The carried values of a class, each clamped to its range (R28). An L of −32768 stands for absence and is not
clamped; F is ignored then. -/
def CarriedClass.clamped (v : CarriedClass) : ClassLimits :=
  { upper := clampTemp v.upper, hard := clampTemp v.hard,
    low := if v.lower = Config.absentTemp then none
      else some { lower := clampTemp v.lower, floor := clampTemp v.floor },
    warmBudget := clampNat 0 Config.maxBudget v.warmBudget, coldBudget := clampNat 0 Config.maxBudget v.coldBudget,
    watchPercent := clampNat Config.minPercent Config.maxPercent v.watchPercent,
    tolerance := clampNat 0 Config.maxTolerance v.tolerance }

/-- Whether clamping changed one or more values (R28). -/
def CarriedClass.adjusted (v : CarriedClass) : Bool :=
  clampTemp v.upper != v.upper || clampTemp v.hard != v.hard
    || (v.lower != Config.absentTemp && (clampTemp v.lower != v.lower || clampTemp v.floor != v.floor))
    || v.clamped.warmBudget != v.warmBudget || v.clamped.coldBudget != v.coldBudget
    || v.clamped.watchPercent != v.watchPercent || v.clamped.tolerance != v.tolerance

/-- The ordering the class test step asks of the clamped values: U < H, and F < L ≤ U when L is present (R29). -/
def ClassLimits.ordered (k : ClassLimits) : Bool :=
  decide (k.upper < k.hard) && k.low.all (fun l => decide (l.floor < l.lower) && decide (l.lower ≤ k.upper))

/-- The 21 bytes of a SET CLASS echo (R180). -/
def ClassLimits.bytes (k : ClassLimits) : List Byte :=
  limitBytes k.upper k.hard k.low ++ beBytes 4 k.warmBudget ++ beBytes 4 k.coldBudget
    ++ [natByte k.watchPercent] ++ beBytes 4 k.tolerance

/-- The 21 value bytes READ CLASS gives an UNSET class: the marker four times, then zeros (R33). -/
def unsetClassBytes : List Byte :=
  tempBytes none ++ tempBytes none ++ tempBytes none ++ tempBytes none ++ List.replicate 13 0

def State.setClassTo (s : State) (k : ClassNo) (v : Option ClassLimits) : State :=
  { s with classes := put s.classes k v }

/-- SET CLASS's work in its class test step (R27 to R30). -/
def setClassWork (k : ClassNo) (v : CarriedClass) (s : State) : State × Result :=
  if 0 < s.useCount[k] then (s, answer rowSetClass .classInUse [])
  else if v.clamped.ordered then
    (s.setClassTo k (some v.clamped), answer rowSetClass (adjustedCode v.adjusted) v.clamped.bytes)
  else (s, answer rowSetClass .badLimits [])

/-- SET CLASS with UNSET in its class test step (R27, R31). -/
def setClassUnsetWork (k : ClassNo) (s : State) : State × Result :=
  if 0 < s.useCount[k] then (s, answer rowSetClass .classInUse [])
  else (s.setClassTo k none, answer rowSetClass .ok [])

/-- READ CLASS's 23 data bytes (R33, R180). -/
def State.classReport (s : State) (k : ClassNo) : List Byte :=
  match s.classes[k] with
  | some v => 1 :: (v.bytes ++ [natByte s.useCount[k]])
  | none => 0 :: (unsetClassBytes ++ [natByte s.useCount[k]])

/-- SET CLASS with values at its close (R27). -/
def execSetClass (p : PortId) (bytes : List Byte) (s : State) : Host.Outcome State Fault Refusal :=
  .next (closeQueued rowSetClass p bytes
    (acceptWaiting p (.setClass (classField (byteAt 0 bytes)) (classValues bytes))) s)

/-- SET CLASS with UNSET at its close (R31). -/
def execSetClassUnset (p : PortId) (bytes : List Byte) (s : State) : Host.Outcome State Fault Refusal :=
  .next (closeQueued rowSetClass p bytes (acceptWaiting p (.setClassUnset (classField (byteAt 0 bytes)))) s)

/-- READ CLASS at its close: carried out at acceptance (R33, R172). -/
def execReadClass (p : PortId) (bytes : List Byte) (s : State) : Host.Outcome State Fault Refusal :=
  .next (closeQueued rowReadClass p bytes
    (fun s => s.place p (answer rowReadClass .ok (s.classReport (classField (byteAt 0 bytes))))) s)

end Sys2Proof.Machine
end

