-- ==== Sys2Proof/Machine/Clock.lean ====
section
/-!
DEFINITION. The route clock and the unit identity: ROUTE_CLOCK_SECOND, READ CLOCK, SET CLOCK with its event, SET UNIT ID
(sections 10.1 and 10.6).
-/
namespace Sys2Proof.Machine

/-- ROUTE_CLOCK_SECOND: the clock rises by one, wrapping, on main power or on the backup (R146). -/
def execRouteClockSecond (s : State) : Host.Outcome State Fault Refusal := .next { s with clock := s.clock + 1 }

/-- READ CLOCK's 7 data bytes (R148, R180). -/
def State.clockReport (s : State) : List Byte :=
  beBytes 4 s.clock.toNat ++ beBytes 2 s.unitId.toNat ++ [s.lastStart.byte]

/-- READ CLOCK at its close (R148). -/
def execReadClock (p : PortId) (bytes : List Byte) (s : State) : Host.Outcome State Fault Refusal :=
  .next (closeQueued rowReadClock p bytes (fun s => s.place p (answer rowReadClock .ok s.clockReport)) s)

/-! ### SET CLOCK -/

/-- A record whose offer deadline, if it has one, is shifted (R149). -/
def Record.shift (r : Record) (d : BitVec 32) : Record :=
  match r.custody with
  | .aboard _ => r
  | .offered l t => { r with custody := .offered l (t + d) }
  | .closed _ => r

/-- The deadlines of the records that the offer queue's entries name, shifted. -/
def shiftNamed (d : BitVec 32) (offers : List Offer) (slots : Vector (Option Record) 128) : Vector (Option Record) 128 :=
  Vector.ofFn (fun i : SlotNo => if offers.any (fun o => o.slot == i) then slots[i].map (·.shift d) else slots[i])

/-- The event of SET CLOCK: the clock set to v and every held time shifted by the same amount (R149). -/
def State.shiftClock (s : State) (v : RouteTime) : State :=
  let d := v - s.clock
  { s with
    clock := v
    slots := shiftNamed d s.offers s.slots
    offers := s.offers.map (fun o => { o with deadline := o.deadline + d })
    comps := s.comps.map (fun x => { x with doorDeadline := x.doorDeadline.map (· + d) })
    scanner := { s.scanner with nextTick := s.scanner.nextTick.map (· + d) }
    lastSnapshotTime := s.lastSnapshotTime + d
    exposure := { s.exposure with gapEnd := s.exposure.gapEnd.map (· + d) } }

/-- SET CLOCK's answer: the old clock value and v (R149, R180). -/
def setClockAnswer (old v : RouteTime) : Result :=
  answer rowSetClock .ok (beBytes 4 old.toNat ++ beBytes 4 v.toNat)

/-- The event taken and its result placed on the Unit Port (R149, R150). -/
def State.takeClockEvent (s : State) (p : PortId) (v : RouteTime) : State :=
  (s.shiftClock v).place p (setClockAnswer s.clock v)

/-- SET CLOCK at its close: its event is taken at once, or waits for the end of the table step in progress (R150, R172). -/
def execSetClock (p : PortId) (bytes : List Byte) (s : State) : Host.Outcome State Fault Refusal :=
  .next (closeQueued rowSetClock p bytes
    (fun s =>
      if s.engine.isNone then s.takeClockEvent p (BitVec.ofNat 32 (natAt 0 4 bytes))
      else acceptWaiting p (.setClock (BitVec.ofNat 32 (natAt 0 4 bytes))) s)
    s)

/-- SET_CLOCK_EVENT: a waiting SET CLOCK is taken once no table step is in progress (R150, log 9). -/
def execSetClockEvent (s : State) : Host.Outcome State Fault Refusal :=
  .next
    (match s.unitPort.phase with
     | .waiting (.setClock v) => if s.powered && s.engine.isNone then s.takeClockEvent .unit v else s
     | _ => s)

/-! ### SET UNIT ID -/

/-- Whether every slot is FREE (R22). -/
def State.tableEmpty (s : State) : Bool := slotNumbers.all (fun i => s.slots[i].isNone)

def State.setUnitIdTo (s : State) (v : Half) : State := { s with unitId := v }

/-- SET UNIT ID in its table test step (R22, R159). -/
def setUnitIdWork (v : Half) (s : State) : State × Result :=
  if s.tableEmpty then (s.setUnitIdTo v, answer rowSetUnitId .ok (beBytes 2 v.toNat))
  else (s, answer rowSetUnitId .tableNotEmpty [])

/-- SET UNIT ID at its close (R159, R172). -/
def execSetUnitId (p : PortId) (bytes : List Byte) (s : State) : Host.Outcome State Fault Refusal :=
  .next (closeQueued rowSetUnitId p bytes (acceptWaiting p (.setUnitId (BitVec.ofNat 16 (natAt 0 2 bytes)))) s)

end Sys2Proof.Machine
end

