-- ==== Sys2Proof/Machine/Handover.lean ====
section
/-!
DEFINITION. Handover and closing: OFFER, WITHDRAW, the lapse, CONFIRM, READ STATEMENT, RETIRE and SET OFFER TIMEOUT
(chapter 9).
-/
namespace Sys2Proof.Machine

/-! ### Offers -/

/-- A timeout clamped to 10..3,600 (R130, R131). -/
def clampTimeout (n : Nat) : Nat := clampNat Config.minTimeout Config.maxTimeout n

/-- The timeout an OFFER uses: the stored one when it carries none of its own, else its own clamped (R131). -/
def offerTimeoutUsed (stored own : Nat) : Nat := if own = 0 then stored else clampTimeout own

/-- An ABOARD record made OFFERED with its entry in the queue, in one step (R128, R131). -/
def State.makeOffer (s : State) (i : SlotNo) (r : Record) (l : LiveFields) (deadline : RouteTime) : State :=
  ((s.setSlot i (some { r with custody := .offered l deadline })).setOffers
    (insertOffer { slot := i, deadline := deadline } s.offers)).retestHead

/-- An OFFERED record returned to ABOARD with the given lapses, its entry out of the queue, in one step. -/
def State.endOffer (s : State) (i : SlotNo) (r : Record) (l : LiveFields) (lapses : Nat) : State :=
  ((s.setSlot i (some { r with custody := .aboard l, lapses := lapses })).setOffers
    (removeOffer i s.offers)).retestHead

/-- OFFER in its offer step (R131). -/
def offerWork (inp : StepInputs) (id : ConsignmentId) (own : Nat) (s : State) : State × Result :=
  match s.findRecord id with
  | none => (s, answer rowOffer .notFound [])
  | some (i, r) =>
    match r.custody with
    | .aboard l =>
      if Config.offerCapacity ≤ s.offers.length then (s, answer rowOffer .offersFull [])
      else
        let used := offerTimeoutUsed inp.offerTimeout own
        (s.makeOffer i r l (later inp.now used),
          answer rowOffer (adjustedCode (own != 0 && clampTimeout own != own)) (natByte i.val :: beBytes 2 used))
    | .offered _ _ => (s, answer rowOffer .wrongState [])
    | .closed _ => (s, answer rowOffer .wrongState [])

/-- WITHDRAW in its withdraw step (R133). -/
def withdrawWork (id : ConsignmentId) (s : State) : State × Result :=
  match s.findRecord id with
  | none => (s, answer rowWithdraw .notFound [])
  | some (i, r) =>
    match r.custody with
    | .offered l _ => (s.endOffer i r l r.lapses, answer rowWithdraw .ok [natByte i.val])
    | .aboard _ => (s, answer rowWithdraw .wrongState [])
    | .closed _ => (s, answer rowWithdraw .wrongState [])

/-- The lapse's work: the head entry removed, its record ABOARD with one more lapse, OFFER_LAPSED raised (R134). -/
def lapseWork (s : State) : State :=
  match s.offers with
  | [] => s
  | o :: _ =>
    match s.slots[o.slot] with
    | some r =>
      match r.custody with
      | .offered l _ =>
        (s.endOffer o.slot r l (satAdd Config.maxLapses r.lapses 1)).raise offerLapsedFlag
      | .aboard _ => s
      | .closed _ => s
    | none => s

/-! ### Confirmation -/

/-- The fields a closing step gives a record, the check word apart (R137). -/
def closingFields (inp : StepInputs) (unitId : Half) (receiver : Wide) (k : ClassLimits) (r : Record) (l : LiveFields) :
    ClosedFields :=
  { closeTime := inp.now, receiver := receiver, closingUnit := unitId, limits := k.copy,
    doorFinal := doorExposures inp.comps[r.comp].openings l, checkWord := 0, scanPeriod := inp.period,
    statementRead := false }

/-- Closed fields with the check word of their record's statement (R140). -/
def ClosedFields.withCheck (f : ClosedFields) (r : Record) : ClosedFields :=
  { f with checkWord := BitVec.ofNat 16 (checkWordOfBytes (statementBody r f.form)) }

/-- The close step's changes, all in one step (R137). -/
def State.closeRecord (s : State) (i : SlotNo) (r : Record) (f : ClosedFields) : State :=
  (((s.setSlot i (some { r with custody := .closed f })).setOffers (removeOffer i s.offers)).countOut r.cls
    r.comp).retestHead

/-- CONFIRM's answer: slot, verdict, the cause as the statement carries it, check word (R137, R180). -/
def confirmAnswer (i : SlotNo) (r : Record) (f : ClosedFields) : Result :=
  answer rowConfirm .ok
    ([natByte i.val, r.verdict.byte, r.statementCause.byte] ++ beBytes 2 f.checkWord.toNat)

/-- CONFIRM in its close step (R136, R137). A live record's class is SET; should it not be, the step changes nothing and
answers CLASS_UNSET (log 32). -/
def confirmWork (inp : StepInputs) (id : ConsignmentId) (receiver : Wide) (s : State) : State × Result :=
  match s.findRecord id with
  | none => (s, answer rowConfirm .notFound [])
  | some (i, r) =>
    match r.custody with
    | .offered l _ =>
      if s.unitId = 0 then (s, answer rowConfirm .unitUnset [])
      else match s.classes[r.cls] with
        | some k =>
          (s.closeRecord i r ((closingFields inp s.unitId receiver k r l).withCheck r),
            confirmAnswer i r ((closingFields inp s.unitId receiver k r l).withCheck r))
        | none => (s, answer rowConfirm .classUnset [])
    | .aboard _ => (s, answer rowConfirm .wrongState [])
    | .closed _ => (s, answer rowConfirm .wrongState [])

/-! ### Statements and retiring -/

/-- READ STATEMENT's answer for a live record: a provisional statement (R141). A live record's class is SET; should it
not be, the answer is CLASS_UNSET (log 32). -/
def State.provisionalAnswer (s : State) (inp : StepInputs) (r : Record) (l : LiveFields) : Result :=
  match s.classes[r.cls] with
  | some k =>
    answer rowReadStatement .ok
      (provisionalStatement r k (doorExposures inp.comps[r.comp].openings l) inp.period)
  | none => answer rowReadStatement .classUnset []

/-- READ STATEMENT in its step: the closed statement, with statement read set, or a provisional one (R141, R142). -/
def readStatementWork (inp : StepInputs) (id : ConsignmentId) (s : State) : State × Result :=
  match s.findRecord id with
  | none => (s, answer rowReadStatement .notFound [])
  | some (i, r) =>
    match r.custody with
    | .closed f =>
      (s.setSlot i (some { r with custody := .closed { f with statementRead := true } }),
        answer rowReadStatement .ok (closedStatement r f))
    | .aboard l => (s, s.provisionalAnswer inp r l)
    | .offered l _ => (s, s.provisionalAnswer inp r l)

/-- RETIRE in its retire step (R143). -/
def retireWork (id : ConsignmentId) (force : Bool) (s : State) : State × Result :=
  match s.findRecord id with
  | none => (s, answer rowRetire .notFound [])
  | some (i, r) =>
    match r.custody with
    | .closed f =>
      if f.statementRead || force then (s.setSlot i none, answer rowRetire .ok [natByte i.val])
      else (s, answer rowRetire .unread [])
    | .aboard _ => (s, answer rowRetire .wrongState [])
    | .offered _ _ => (s, answer rowRetire .wrongState [])

/-! ### At their closes -/

/-- OFFER at its close (R131, R172). -/
def execOffer (p : PortId) (bytes : List Byte) (s : State) : Host.Outcome State Fault Refusal :=
  .next (closeQueued rowOffer p bytes (acceptWaiting p (.offer (idField bytes) (natAt 12 2 bytes))) s)

/-- WITHDRAW at its close (R133, R172). -/
def execWithdraw (p : PortId) (bytes : List Byte) (s : State) : Host.Outcome State Fault Refusal :=
  .next (closeQueued rowWithdraw p bytes (acceptWaiting p (.withdraw (idField bytes))) s)

/-- CONFIRM at its close: the Dock Port's alone (R136, R172). -/
def execConfirm (p : PortId) (bytes : List Byte) (s : State) : Host.Outcome State Fault Refusal :=
  .next (closeQueued rowConfirm p bytes
    (acceptWaiting p (.confirm (idField bytes) (BitVec.ofNat 32 (natAt 12 4 bytes)))) s)

/-- READ STATEMENT at its close (R142, R172). -/
def execReadStatement (p : PortId) (bytes : List Byte) (s : State) : Host.Outcome State Fault Refusal :=
  .next (closeQueued rowReadStatement p bytes (acceptWaiting p (.readStatement (idField bytes))) s)

/-- Whether a RETIRE carries FORCE: bit 0 of its options byte (R179). -/
def forceField (bytes : List Byte) : Bool := (byteAt 12 bytes).getLsbD 0

/-- RETIRE at its close: a Dock Port frame that carries FORCE is not permitted (R143, R169). -/
def execRetire (p : PortId) (bytes : List Byte) (s : State) : Host.Outcome State Fault Refusal :=
  .next (closeFrame rowRetire p (bytes.length + 1) (forceField bytes) id
    (acceptWaiting p (.retire (idField bytes) (forceField bytes))) s)

def State.setOfferTimeout (s : State) (n : Nat) : State := { s with offerTimeout := n }

/-- SET OFFER TIMEOUT at its close: stored at acceptance (R130). -/
def execSetOfferTimeout (p : PortId) (bytes : List Byte) (s : State) : Host.Outcome State Fault Refusal :=
  .next (closeQueued rowSetOfferTimeout p bytes
    (fun s =>
      (s.setOfferTimeout (clampTimeout (natAt 0 2 bytes))).place p
        (answer rowSetOfferTimeout (adjustedCode (clampTimeout (natAt 0 2 bytes) != natAt 0 2 bytes))
          (beBytes 2 (clampTimeout (natAt 0 2 bytes)))))
    s)

/-! ### The deadline -/

/-- OFFER_DEADLINE_REACHED: the head deadline is reached while the lapse release is released, and the lapse has a step
waiting (R129, log 10). -/
def execOfferDeadlineReached (s : State) : Host.Outcome State Fault Refusal :=
  .next (if s.powered && s.headReached then { s with lapseWaiting := true } else s)

end Sys2Proof.Machine
end

