-- ==== Sys2Proof/Machine/Moves.lean ====
section
/-!
DEFINITION. Moving consignments between compartments: MOVE, its TRIAL option and MOVE ALL (chapter 8).
-/
namespace Sys2Proof.Machine

/-- A record moved to another compartment: its door exposures folded into the stored part and its base taken from the
destination (R115). -/
def Record.moveTo (r : Record) (inp : StepInputs) (l : LiveFields) (dest : CompNo) : Record :=
  Record.withLive { r with comp := dest }
    { l with
      doorStored := doorExposures inp.comps[r.comp].openings l
      doorBase := inp.comps[dest].openings }

/-- One live record fewer in the compartment left and one more in the one entered (R9). -/
def State.shiftOccupancy (s : State) (a b : CompNo) : State :=
  let left := put s.occupancy a (s.occupancy[a] - 1)
  { s with occupancy := put left b (left[b] + 1) }

/-- The changes of a move to a different compartment, all together (R115). -/
def State.moveRecord (s : State) (inp : StepInputs) (i : SlotNo) (r : Record) (l : LiveFields) (dest : CompNo) : State :=
  (s.setSlot i (some (r.moveTo inp l dest))).shiftOccupancy r.comp dest

/-- MOVE's answer: slot, compartment left, compartment entered, door exposures (R180). -/
def moveAnswer (i : SlotNo) (a b : CompNo) (door : Nat) : Result :=
  answer rowMove .ok ([natByte i.val, compByte a, compByte b] ++ beBytes 2 door)

/-- MOVE in its move step (R114, R115). -/
def moveWork (inp : StepInputs) (id : ConsignmentId) (dest : Byte) (s : State) : State × Result :=
  match s.findRecord id with
  | none => (s, answer rowMove .notFound [])
  | some (i, r) =>
    match r.custody with
    | .aboard l =>
      match activeField inp.comps dest with
      | none => (s, answer rowMove .badCompartment [])
      | some b =>
        (if b = r.comp then s else s.moveRecord inp i r l b,
          moveAnswer i r.comp b (doorExposures inp.comps[r.comp].openings l))
    | .offered _ _ => (s, answer rowMove .wrongState [])
    | .closed _ => (s, answer rowMove .wrongState [])

/-- The four results of a trial as a byte: warm, hard high, cold, hard low; all no for an absent temperature (R119). -/
def trialResults (k : ClassLimits) : Option Int → Byte
  | none => 0
  | some t =>
    (if k.upper < t then 1 else 0) + (if k.hard ≤ t then 2 else 0)
      + (if k.low.any (fun l => decide (t < l.lower)) then 4 else 0)
      + (if k.low.any (fun l => decide (t ≤ l.floor)) then 8 else 0)

/-- A trial's answer from the destination's latest snapshot; an ACTIVE compartment holds one (R119, R180). -/
def trialAnswer (i : SlotNo) (c : CompNo) (reading : Reading) (k : ClassLimits) : Result :=
  answer rowMove .ok
    ([natByte i.val, compByte c, reading.source.byte] ++ tempBytes reading.temp ++ [trialResults k reading.temp])

/-- The reading of a compartment's latest snapshot; BLIND should there be none (log 32). -/
def Compartment.latestReading (x : Compartment) : Reading := x.snapshot.elim .blind (·.reading)

/-- MOVE with TRIAL in its trial move step: it changes nothing (R118, R119). A live record's class is SET; should it not
be, the trial is answered as of a class no reading lies beyond (log 32). -/
def trialWork (inp : StepInputs) (id : ConsignmentId) (dest : Byte) (s : State) : Result :=
  match s.findRecord id with
  | none => answer rowMove .notFound []
  | some (i, r) =>
    match r.live with
    | none => answer rowMove .wrongState []
    | some _ =>
      match activeField inp.comps dest with
      | none => answer rowMove .badCompartment []
      | some b =>
        match s.classes[r.cls] with
        | some k => trialAnswer i b inp.comps[b].latestReading k
        | none =>
          answer rowMove .ok
            ([natByte i.val, compByte b, inp.comps[b].latestReading.source.byte]
              ++ tempBytes inp.comps[b].latestReading.temp ++ [0])

/-! ### MOVE ALL -/

/-- The start checks of MOVE ALL, made in the step for slot 0 (R121). -/
def moveAllMayStart (inp : StepInputs) (source dest : Byte) : Bool :=
  match activeField inp.comps source, activeField inp.comps dest with
  | some a, some b => a != b
  | _, _ => false

/-- The table change of a slot step: an ABOARD record of the source is moved, anything else passed over (R122); with
whether one was moved. The destination is ACTIVE at every slot step of a walk that passed its start checks (R123, Note),
so naming it as an ACTIVE field takes nothing away. -/
def moveAllSlotWork (inp : StepInputs) (source dest : Byte) (slot : SlotNo) (s : State) : State × Bool :=
  if slot.val = 0 ∧ moveAllMayStart inp source dest = false then (s, false)
  else match s.slots[slot], compField source, activeField inp.comps dest with
    | some r, some a, some b =>
      match r.custody with
      | .aboard l => if r.comp = a then (s.moveRecord inp slot r l b, true) else (s, false)
      | .offered _ _ => (s, false)
      | .closed _ => (s, false)
    | _, _, _ => (s, false)

/-- A MOVE ALL result: every one carries its count (R180). -/
def moveAllAnswer (code : ResultCode) (count : Nat) : Result := answer rowMoveAll code [natByte count]

/-- How a walk stands after a slot step: `none` when the next slot's step follows, else its result (R121, R123). -/
def moveAllEnding (inp : StepInputs) (source dest : Byte) (slot : SlotNo) (count : Nat) : Option Result :=
  if slot.val = 0 ∧ moveAllMayStart inp source dest = false then some (moveAllAnswer .badCompartment 0)
  else if slot.val = 127 then some (moveAllAnswer .ok count)
  else none

/-- The walk ends: the move-all record becomes absent and the Unit Port holds a result. -/
def State.endWalk (s : State) (r : Result) : State := State.place { s with moveAll := none } .unit r

/-- The walk goes on: its record as given, the Unit Port WAITING (R173). -/
def State.continueWalk (s : State) (m : MoveAllRecord) : State :=
  State.setPhase { s with moveAll := some m } .unit (.waiting .moveAll)

/-- The slot after another, the last one standing. -/
def nextSlot (i : SlotNo) : SlotNo := if h : i.val + 1 < 128 then ⟨i.val + 1, h⟩ else i

/-- After a slot step whose walk was not reset: the walk goes on, ends, or meets a CANCEL's hold (R122, R123, R125,
R176). `m` is the record with the count after the step, and `ending` the result of a walk that ended. While that result is
held the record keeps the slot of the step that ended the walk as its next slot (DESIGN CHOICE, log 35). -/
def State.settleWalk (s : State) (m : MoveAllRecord) (slot : SlotNo) (ending : Option Result) : State :=
  match m.hold, ending with
  | .stopping, _ => s.endWalk (moveAllAnswer .cancelled m.count)
  | .free, some r => s.endWalk r
  | .free, none => s.continueWalk { m with next := nextSlot slot }
  | .held, some r => s.continueWalk { m with hold := .ended r }
  | .held, none => s.continueWalk { m with next := nextSlot slot }
  | .ended _, _ => s.continueWalk m

/-- MOVE, without TRIAL, at its close (R114, R172). -/
def execMove (p : PortId) (bytes : List Byte) (s : State) : Host.Outcome State Fault Refusal :=
  .next (closeQueued rowMove p bytes (acceptWaiting p (.move (idField bytes) (byteAt 12 bytes))) s)

/-- MOVE with TRIAL at its close (R118, R172). -/
def execMoveTrial (p : PortId) (bytes : List Byte) (s : State) : Host.Outcome State Fault Refusal :=
  .next (closeQueued rowMove p bytes (acceptWaiting p (.moveTrial (idField bytes) (byteAt 12 bytes))) s)

/-- A MOVE ALL accepted: its move-all record at slot 0 with count 0 (R120). -/
def State.startWalk (s : State) (p : PortId) (source dest : Byte) : State :=
  acceptWaiting p .moveAll
    { s with moveAll := some { source := source, dest := dest, next := 0, count := 0, hold := .free } }

/-- MOVE ALL at its close (R120, R172). -/
def execMoveAll (p : PortId) (bytes : List Byte) (s : State) : Host.Outcome State Fault Refusal :=
  .next (closeQueued rowMoveAll p bytes (fun s => s.startWalk p (byteAt 0 bytes) (byteAt 1 bytes)) s)

end Sys2Proof.Machine
end

