-- ==== Sys2Proof/Machine/Table.lean ====
section
/-!
DEFINITION. The commands that read the Custody Table: FIND, WALK and WALK NEXT (chapter 1).
-/
namespace Sys2Proof.Machine

/-- Whether a record's state is in a filter's state set (R16). -/
def WalkFilter.admitsState (f : WalkFilter) : Custody → Bool
  | .aboard _ => f.aboard
  | .offered _ _ => f.offered
  | .closed _ => f.closed

/-- Whether a record matches a filter in all three parts (R16). -/
def WalkFilter.matchesRecord (f : WalkFilter) (r : Record) : Bool :=
  f.comp.all (fun c => c == r.comp) && f.admitsState r.custody && decide (f.least.rank ≤ r.verdict.rank)

/-- The first slot at or above the cursor whose record matches (R18). -/
def State.walkMatch (s : State) (f : WalkFilter) (cursor : Nat) : Option SlotNo :=
  slotNumbers.find? (fun i => decide (cursor ≤ i.val) && s.slots[i].any f.matchesRecord)

/-- FIND's work in its find step (R14). -/
def findWork (inp : StepInputs) (id : ConsignmentId) (s : State) : State × Result :=
  match s.findRecord id with
  | some (i, r) => (s, answer rowFind .ok (summaryBytes inp.now i r))
  | none => (s, answer rowFind .notFound [])

/-- The slots examined from a port's cursor with its filter: a summary and the cursor past the match, or END_OF_WALK and
the cursor 0 (R18, R19). -/
def walkFrom (row : CommandRow) (inp : StepInputs) (p : PortId) (f : WalkFilter) (s : State) : State × Result :=
  match s.walkMatch f (s.port p).cursor with
  | some i =>
    (s.setPort p { s.port p with cursor := i.val + 1 },
      answer row .ok ((s.slots[i].map (summaryBytes inp.now i)).getD []))
  | none => (s.setPort p { s.port p with cursor := 0 }, answer row .endOfWalk [])

/-- WALK's work in its walk step: the filter stored, the cursor 0, and the slots examined from there (R18). A WALK whose
compartment value names no filter is refused with BAD_COMPARTMENT, the stored filter and the cursor left (R16). -/
def walkWork (inp : StepInputs) (p : PortId) (f : Option WalkFilter) (s : State) : State × Result :=
  match f with
  | some f => walkFrom rowWalk inp p f (s.setPort p { s.port p with cursor := 0, filter := some f })
  | none => (s, answer rowWalk .badCompartment [])

/-- WALK NEXT's work in its walk step (R19). -/
def walkNextWork (inp : StepInputs) (p : PortId) (s : State) : State × Result :=
  match (s.port p).filter with
  | some f => walkFrom rowWalkNext inp p f s
  | none => (s, answer rowWalkNext .noWalk [])

/-- FIND at its close (R14, R172). -/
def execFind (p : PortId) (bytes : List Byte) (s : State) : Host.Outcome State Fault Refusal :=
  .next (closeQueued rowFind p bytes (acceptWaiting p (.find (idField bytes))) s)

/-- WALK at its close: it waits for its walk step whatever its compartment value (R16, R172). -/
def execWalk (p : PortId) (bytes : List Byte) (s : State) : Host.Outcome State Fault Refusal :=
  .next (closeQueued rowWalk p bytes (acceptWaiting p (.walk (walkField bytes))) s)

/-- WALK NEXT at its close (R19). -/
def execWalkNext (p : PortId) (bytes : List Byte) (s : State) : Host.Outcome State Fault Refusal :=
  .next (closeQueued rowWalkNext p bytes (acceptWaiting p .walkNext) s)

end Sys2Proof.Machine
end

