-- ==== Sys2Proof/Machine/TableSteps.lean ====
section
/-!
DEFINITION. The table engine's steps (section 1.5): the work of each kind of step, how a step ends, and the meaning of
each step row at its grant and at its end.
-/
namespace Sys2Proof.Machine

/-- The work of a port's single-step command within its step. MOVE ALL and SET CLOCK have no such step; what stands for
them is never reached. -/
def portWork (p : PortId) (inp : StepInputs) (s : State) : PortCommand → State × Result
  | .admitFresh id cls comp => admitFreshWork inp id cls comp s
  | .admitCarried st cls comp => admitCarriedWork inp st cls comp s
  | .discard id => discardWork id s
  | .find id => findWork inp id s
  | .walk f => walkWork inp p f s
  | .walkNext => walkNextWork inp p s
  | .move id dest => moveWork inp id dest s
  | .moveTrial id dest => (s, trialWork inp id dest s)
  | .moveAll => (s, moveAllAnswer .ok 0)
  | .offer id own => offerWork inp id own s
  | .withdraw id => withdrawWork id s
  | .confirm id receiver => confirmWork inp id receiver s
  | .readStatement id => readStatementWork inp id s
  | .retire id force => retireWork id force s
  | .setClass k v => setClassWork k v s
  | .setClassUnset k => setClassUnsetWork k s
  | .setCompartmentOff c v => setCompartmentOffWork c v s
  | .setClock v => (s, setClockAnswer s.clock v)
  | .setUnitId v => setUnitIdWork v s

/-- Whether a command's step is a walk step. -/
def PortCommand.walks : PortCommand → Bool
  | .walk _ => true
  | .walkNext => true
  | _ => false

/-- The engine free again. -/
def State.freeEngine (s : State) : State := { s with engine := none }

/-- A port's step ends: its work, then its result placed, or discarded when a PORT RESET came; a discarded walk step
clears the walk after its own change (R17, R173, R177). -/
def State.finishPort (s : State) (p : PortId) (cmd : PortCommand) (inp : StepInputs) (discarded : Bool) : State :=
  let done := portWork p inp s cmd
  if discarded then (if cmd.walks then done.1.freeEngine.clearWalk p else done.1.freeEngine)
  else done.1.freeEngine.place p done.2

/-- A MOVE ALL slot step ends: its slot's work, and the walk settled unless a PORT RESET came, which leaves any move-all
record of a later MOVE ALL as it is (R126). -/
def State.finishMoveAll (s : State) (source dest : Byte) (slot : SlotNo) (inp : StepInputs) (discarded : Bool) : State :=
  let done := moveAllSlotWork inp source dest slot s
  if discarded then done.1.freeEngine
  else match s.moveAll with
    | some m =>
      let m' := { m with count := m.count + done.2.toNat }
      done.1.freeEngine.settleWalk m' slot (moveAllEnding inp source dest slot m'.count)
    | none => done.1.freeEngine

/-- The step in progress ends. -/
def State.finish (s : State) (st : StepInProgress) : State :=
  match st.work with
  | .port p cmd => s.finishPort p cmd st.inputs st.discarded
  | .moveAllSlot source dest slot => s.finishMoveAll source dest slot st.inputs st.discarded
  | .accrual => (accrualWork st.inputs s).freeEngine.accrualAdvance
  | .gap => (gapWork st.inputs s).freeEngine.gapAdvance
  | .lapse => (lapseWork s).freeEngine

/-- The end of the step in progress, when it is of the kind a row names. -/
def endStep (kind : StepWork → Bool) (s : State) : State :=
  match s.engine with
  | some st => if s.powered && kind st.work then s.finish st else s
  | none => s

/-- A kind of step: a port's command of some kind. -/
def portKind (p : PortId) (kind : PortCommand → Bool) : StepWork → Bool
  | .port q cmd => q == p && kind cmd
  | _ => false

/-- A port's step row at its grant or at its end. -/
def portStep (p : PortId) (kind : PortCommand → Bool) (ph : StepPhase) (s : State) : State :=
  match ph with
  | .begins => beginPortStep p kind s
  | .ends => endStep (portKind p kind) s

/-- A requester's own step row, no port's, at its grant or at its end. -/
def requesterStep (r : Requester) (work : StepWork) (ph : StepPhase) (s : State) : State :=
  match ph with
  | .begins => if s.mayGrant r then s.grant r work else s
  | .ends => endStep (fun w => w == work) s

/-! ### The kinds of port step (R10) -/

def PortCommand.isAdmit : PortCommand → Bool
  | .admitFresh _ _ _ => true
  | .admitCarried _ _ _ => true
  | _ => false

def PortCommand.isFind : PortCommand → Bool
  | .find _ => true
  | _ => false

def PortCommand.isMove : PortCommand → Bool
  | .move _ _ => true
  | _ => false

def PortCommand.isTrial : PortCommand → Bool
  | .moveTrial _ _ => true
  | _ => false

def PortCommand.isDiscard : PortCommand → Bool
  | .discard _ => true
  | _ => false

def PortCommand.isOffer : PortCommand → Bool
  | .offer _ _ => true
  | _ => false

def PortCommand.isWithdraw : PortCommand → Bool
  | .withdraw _ => true
  | _ => false

def PortCommand.isConfirm : PortCommand → Bool
  | .confirm _ _ => true
  | _ => false

def PortCommand.isReadStatement : PortCommand → Bool
  | .readStatement _ => true
  | _ => false

def PortCommand.isRetire : PortCommand → Bool
  | .retire _ _ => true
  | _ => false

def PortCommand.isClassTest : PortCommand → Bool
  | .setClass _ _ => true
  | .setClassUnset _ => true
  | _ => false

def PortCommand.isCompartmentTest : PortCommand → Bool
  | .setCompartmentOff _ _ => true
  | _ => false

def PortCommand.isTableTest : PortCommand → Bool
  | .setUnitId _ => true
  | _ => false

/-! ### The meanings of the step rows -/

/-- ADMIT_STEP (R104). -/
def execAdmitStep (p : PortId) (ph : StepPhase) (s : State) : Host.Outcome State Fault Refusal :=
  .next (portStep p PortCommand.isAdmit ph s)

/-- FIND_STEP (R14). -/
def execFindStep (p : PortId) (ph : StepPhase) (s : State) : Host.Outcome State Fault Refusal :=
  .next (portStep p PortCommand.isFind ph s)

/-- WALK_STEP (R18, R19). -/
def execWalkStep (p : PortId) (ph : StepPhase) (s : State) : Host.Outcome State Fault Refusal :=
  .next (portStep p PortCommand.walks ph s)

/-- MOVE_STEP (R115). -/
def execMoveStep (ph : StepPhase) (s : State) : Host.Outcome State Fault Refusal :=
  .next (portStep .unit PortCommand.isMove ph s)

/-- TRIAL_MOVE_STEP (R119). -/
def execTrialMoveStep (ph : StepPhase) (s : State) : Host.Outcome State Fault Refusal :=
  .next (portStep .unit PortCommand.isTrial ph s)

/-- Whether some work is a MOVE ALL slot step. -/
def StepWork.isMoveAll : StepWork → Bool
  | .moveAllSlot _ _ _ => true
  | _ => false

/-- The grant of a MOVE ALL slot step: the Unit Port enters WORKING (R120, R173). -/
def beginMoveAllSlot (s : State) : State :=
  match s.unitPort.phase, s.moveAll with
  | .waiting .moveAll, some m =>
    if s.mayGrant .unitPort then
      (s.grant .unitPort (.moveAllSlot m.source m.dest m.next)).setPhase .unit (.working .moveAll)
    else s
  | _, _ => s

/-- MOVE_ALL_SLOT (R121 to R123). -/
def execMoveAllSlot (ph : StepPhase) (s : State) : Host.Outcome State Fault Refusal :=
  .next
    (match ph with
     | .begins => beginMoveAllSlot s
     | .ends => endStep StepWork.isMoveAll s)

/-- DISCARD_STEP (R111). -/
def execDiscardStep (ph : StepPhase) (s : State) : Host.Outcome State Fault Refusal :=
  .next (portStep .unit PortCommand.isDiscard ph s)

/-- OFFER_STEP (R131). -/
def execOfferStep (p : PortId) (ph : StepPhase) (s : State) : Host.Outcome State Fault Refusal :=
  .next (portStep p PortCommand.isOffer ph s)

/-- WITHDRAW_STEP (R133). -/
def execWithdrawStep (p : PortId) (ph : StepPhase) (s : State) : Host.Outcome State Fault Refusal :=
  .next (portStep p PortCommand.isWithdraw ph s)

/-- CLOSE_STEP (R136, R137): CONFIRM comes from the Dock Port alone. -/
def execCloseStep (ph : StepPhase) (s : State) : Host.Outcome State Fault Refusal :=
  .next (portStep .dock PortCommand.isConfirm ph s)

/-- READ_STATEMENT_STEP (R142). -/
def execReadStatementStep (p : PortId) (ph : StepPhase) (s : State) : Host.Outcome State Fault Refusal :=
  .next (portStep p PortCommand.isReadStatement ph s)

/-- RETIRE_STEP (R143). -/
def execRetireStep (p : PortId) (ph : StepPhase) (s : State) : Host.Outcome State Fault Refusal :=
  .next (portStep p PortCommand.isRetire ph s)

/-- CLASS_TEST_STEP (R27). -/
def execClassTestStep (ph : StepPhase) (s : State) : Host.Outcome State Fault Refusal :=
  .next (portStep .unit PortCommand.isClassTest ph s)

/-- COMPARTMENT_TEST_STEP (R50). -/
def execCompartmentTestStep (ph : StepPhase) (s : State) : Host.Outcome State Fault Refusal :=
  .next (portStep .unit PortCommand.isCompartmentTest ph s)

/-- TABLE_TEST_STEP (R22). -/
def execTableTestStep (ph : StepPhase) (s : State) : Host.Outcome State Fault Refusal :=
  .next (portStep .unit PortCommand.isTableTest ph s)

/-- ACCRUAL_VISIT (R72, R73). -/
def execAccrualVisit (ph : StepPhase) (s : State) : Host.Outcome State Fault Refusal :=
  .next (requesterStep .accrual .accrual ph s)

/-- LAPSE_STEP (R134). -/
def execLapseStep (ph : StepPhase) (s : State) : Host.Outcome State Fault Refusal :=
  .next (requesterStep .lapse .lapse ph s)

/-- GAP_VISIT (R155). -/
def execGapVisit (ph : StepPhase) (s : State) : Host.Outcome State Fault Refusal :=
  .next (requesterStep .gap .gap ph s)

end Sys2Proof.Machine
end

