-- ==== Sys2Proof/Machine/Frames.lean ====
section
/-!
DEFINITION. The read of a frame, the close of an unknown one, and the six direct commands (chapter 12; POLL FLAGS and SET
FLAG MASK in chapter 11).
-/
namespace Sys2Proof.Machine

/-! ### The replies -/

/-- The command code READ PORT STATUS reports: of the command in flight, of the command whose result waits, or 00h in
IDLE (R175). -/
def PortPhase.command : PortPhase → Byte
  | .idle => 0
  | .waiting cmd => cmd.code
  | .working cmd => cmd.code
  | .result r => r.command

/-- READ PORT STATUS's five reply bytes (R175). -/
def Port.statusBytes (x : Port) : List Byte :=
  [x.phase.byte]
    ++ x.lastRefusal.elim [0, 0, 0] (fun r => [r.code.byte, r.command, natByte r.count])
    ++ [x.phase.command]

/-- What READ RESULT finds (R174). -/
def PortPhase.found : PortPhase → FoundResult
  | .idle => .empty
  | .waiting _ => .notReady
  | .working _ => .notReady
  | .result _ => .waiting

/-- READ RESULT's reply bytes (R174). -/
def PortPhase.resultBytes : PortPhase → List Byte
  | .idle => markerBytes emptyMarker
  | .waiting _ => markerBytes notReadyMarker
  | .working _ => markerBytes notReadyMarker
  | .result r => r.bytes

/-- The data length n of READ RESULT's reply. -/
def PortPhase.resultLength : PortPhase → Nat
  | .idle => 0
  | .waiting _ => 0
  | .working _ => 0
  | .result r => r.data.length

/-- CANCEL's two reply bytes: OK and the mark (R176). -/
def cancelBytes (mark : Bool) : List Byte := [ResultCode.ok.byte, boolByte mark]

/-! ### The read -/

/-- A frame opened on a port with what its read captured and the reply its partner clocks out. -/
def State.open (s : State) (p : PortId) (code : Byte) (capture : Capture) (reply : List Byte) : State :=
  s.setPort p { s.port p with frame := some { code := code, capture := capture }, reply := reply }

/-- A walk that a CANCEL's read holds; a walk already stopping stays so (R176, log 12). -/
def MoveAllRecord.heldByCancel (m : MoveAllRecord) : MoveAllRecord :=
  match m.hold with
  | .free => { m with hold := .held }
  | .held => m
  | .ended _ => m
  | .stopping => m

/-- Whether CANCEL's read on this port finds a MOVE ALL in flight (R176). -/
def State.cancelMark (s : State) (p : PortId) : Bool := p == .unit && s.moveAll.isSome

/-- CANCEL's read (R176). -/
def State.readCancel (s : State) (p : PortId) : State :=
  if s.cancelMark p then
    State.open { s with moveAll := s.moveAll.map MoveAllRecord.heldByCancel } p rowCancel.code (.cancel true)
      (cancelBytes true)
  else s.open p rowCancel.code (.cancel false) (cancelBytes false)

/-- The read of a frame of some code (R169): a direct command captures the state its reply shows. -/
def State.readFrame (s : State) (p : PortId) (code : Byte) : State :=
  if code = rowReadPortStatus.code then s.open p code .nothing (s.port p).statusBytes
  else if code = rowPollFlags.code then s.open p code (.poll (s.port p).flags 0) (flagBytes (s.port p).flags)
  else if code = rowReadResult.code then
    s.open p code (.result (s.port p).phase.found (s.port p).phase.resultLength) (s.port p).phase.resultBytes
  else if code = rowCancel.code then s.readCancel p
  else if code = rowPortReset.code then s.open p code .nothing [ResultCode.ok.byte]
  else s.open p code .nothing []

/-- Where a frame's reply starts: after the code and the command's parameter bytes (R168). SET FLAG MASK alone has both
parameters and a reply. -/
def replyOffset (code : Byte) : Nat := if code = rowSetFlagMask.code then 6 else 1

/-- The bytes a port sends in a frame of `count` bytes: 00h but for the reply (R168). -/
def Port.dataOut (x : Port) (code : Byte) (count : Nat) : List Byte :=
  (List.replicate (replyOffset code) 0 ++ x.reply ++ List.replicate count 0).take count

/-- FRAME_READ: on main power, on a port with no frame open (R169, R178). -/
def execFrameRead (p : PortId) (code : Byte) (s : State) : Host.Outcome State Fault Refusal :=
  .next (if s.powered && (s.port p).frame.isNone then s.readFrame p code else s)

/-! ### The closes -/

/-- What the read of a port's open frame captured. -/
def State.capture (s : State) (p : PortId) : Option Capture := (s.openFrame p).map OpenFrame.capture

/-- UNKNOWN_COMMAND_FRAME: the open frame's code is not one of section 12.6 (R169, R170). -/
def execUnknownCommandFrame (p : PortId) (count : Nat) (s : State) : Host.Outcome State Fault Refusal :=
  .next
    (match s.openFrame p with
     | some fr =>
       if knownCode fr.code then s else (s.endFrame p).recordRefusal p .unknownCommand fr.code count
     | none => s)

/-- READ PORT STATUS at its close: the last-refusal record becomes absent (R170, R175). -/
def execReadPortStatus (p : PortId) (count : Nat) (s : State) : Host.Outcome State Fault Refusal :=
  .next (closeFrame rowReadPortStatus p count false id
    (fun s => s.setPort p { s.port p with lastRefusal := none }) s)

/-- The flags a poll's close leaves: those returned and not raised again are cleared (R162). -/
def flagsAfterPoll (flags returned raised : FlagSet) : FlagSet := flags &&& ~~~(returned &&& ~~~raised)

/-- POLL FLAGS at its close (R162). -/
def execPollFlags (p : PortId) (count : Nat) (s : State) : Host.Outcome State Fault Refusal :=
  .next
    (match s.capture p with
     | some (.poll returned raised) =>
       closeFrame rowPollFlags p count false id
         (fun s => s.setPort p { s.port p with flags := flagsAfterPoll (s.port p).flags returned raised }) s
     | _ => s)

/-- The mask SET FLAG MASK carries: the first five bytes after its code (R183). -/
def maskField (bytes : List Byte) : FlagSet := flagsOfBytes (slice 0 5 bytes)

/-- The echo of SET FLAG MASK clocked out in its frame, once the five mask bytes have been received: the mask as received
with the unused bits 0 (R183). -/
def maskEcho (bytes : List Byte) : List Byte := if 5 ≤ bytes.length then flagBytes (maskField bytes) else []

/-- SET FLAG MASK at its close: the mask stored (R164, R183). -/
def execSetFlagMask (p : PortId) (bytes : List Byte) (s : State) : Host.Outcome State Fault Refusal :=
  .next (closeFrame rowSetFlagMask p (bytes.length + 1) false
    (fun s => s.setPort p { s.port p with reply := maskEcho bytes })
    (fun s => s.setPort p { s.port p with mask := maskField bytes, reply := maskEcho bytes }) s)

/-- READ RESULT's row with the length its read's reply gives: 1 + 4 + n (R174). -/
def rowReadResultOf (n : Nat) : CommandRow := { rowReadResult with length := rowReadResult.length + n }

/-- What READ RESULT does at a close that passes, by what its read found (R174). -/
def State.takeResult (s : State) (p : PortId) : FoundResult → State
  | .waiting => s.setPhase p .idle
  | .notReady => s
  | .empty => s.setPort p ((s.port p).raise emptyReadFlag)

/-- READ RESULT at its close (R174). -/
def execReadResult (p : PortId) (count : Nat) (s : State) : Host.Outcome State Fault Refusal :=
  .next
    (match s.capture p with
     | some (.result found n) => closeFrame (rowReadResultOf n) p count false id (fun s => s.takeResult p found) s
     | _ => s)

/-! ### CANCEL -/

/-- Whether the engine performs a slot step of the walk in flight. -/
def State.walkStepInProgress (s : State) : Bool := s.engine.any (fun st => st.work.isMoveAll && !st.discarded)

/-- The walk ended by a CANCEL's close, at once or, while a slot step is in progress, as that step ends (R125, R176). -/
def State.cancelWalk (s : State) : State :=
  match s.moveAll with
  | some m =>
    if s.walkStepInProgress then { s with moveAll := some { m with hold := .stopping } }
    else s.endWalk (moveAllAnswer .cancelled m.count)
  | none => s

/-- The hold of a refused CANCEL released: the walk goes on, or its held result is placed (R176). -/
def State.releaseWalk (s : State) : State :=
  match s.moveAll with
  | some m =>
    match m.hold with
    | .held => { s with moveAll := some { m with hold := .free } }
    | .ended r => s.endWalk r
    | .free => s
    | .stopping => s
  | none => s

/-- CANCEL at its close (R125, R169, R176). -/
def execCancel (p : PortId) (count : Nat) (s : State) : Host.Outcome State Fault Refusal :=
  .next
    (match s.capture p with
     | some (.cancel true) => closeFrame rowCancel p count false State.releaseWalk State.cancelWalk s
     | some (.cancel false) => closeFrame rowCancel p count false id id s
     | _ => s)

/-! ### PORT RESET -/

/-- Whether the engine performs a walk step of this port. -/
def State.portWalkInProgress (s : State) (p : PortId) : Bool :=
  s.engine.any (fun st => portKind p PortCommand.walks st.work)

/-- The step in progress marked so that its result is discarded as it ends (R11, R177). -/
def State.discardStep (s : State) : State :=
  { s with engine := s.engine.map (fun st => { st with discarded := true }) }

/-- A MOVE ALL of the port stopped: its move-all record becomes absent (R126). -/
def State.dropMoveAll (s : State) (cmd : PortCommand) : State :=
  match cmd with
  | .moveAll => { s with moveAll := none }
  | _ => s

/-- What PORT RESET does to the command in flight, by the port state (R177). -/
def State.dropCommand (s : State) : PortPhase → State
  | .idle => s
  | .waiting cmd => s.dropMoveAll cmd
  | .working cmd => s.discardStep.dropMoveAll cmd
  | .result _ => s

/-- The port after a PORT RESET: IDLE with no last refusal, its walk cleared unless a walk step of the port is in
progress, which clears it as it ends (R17, R177). -/
def Port.afterReset (x : Port) (walkInProgress : Bool) : Port :=
  { x with
    phase := .idle, lastRefusal := none, cursor := if walkInProgress then x.cursor else 0,
    filter := if walkInProgress then x.filter else none }

/-- PORT RESET's action (R177). -/
def State.resetPort (s : State) (p : PortId) : State :=
  (s.dropCommand (s.port p).phase).setPort p ((s.port p).afterReset (s.portWalkInProgress p))

/-- PORT RESET at its close (R177). -/
def execPortReset (p : PortId) (count : Nat) (s : State) : Host.Outcome State Fault Refusal :=
  .next (closeFrame rowPortReset p count false id (fun s => s.resetPort p) s)

end Sys2Proof.Machine
end

