-- ==== Sys2Proof/Machine/Power.lean ====
section
/-!
DEFINITION. Main power and the retention domain: the loss, the return with its two starts, and the failure of the
retention supply (sections 10.2 to 10.5).
-/
namespace Sys2Proof.Machine

/-! ### The loss of main power (R153) -/

/-- What a table step in progress brings about when it completes on the retention domain's supply: the changes of the
step, and, with the last gap visit, last snapshot time (R153, R157, log 13). -/
def State.completeOnSupply (s : State) (st : StepInProgress) : State :=
  match st.work with
  | .port p cmd => (portWork p st.inputs s cmd).1
  | .moveAllSlot source dest slot => (moveAllSlotWork st.inputs source dest slot s).1
  | .accrual => accrualWork st.inputs s
  | .gap =>
    if s.lastGapVisit then
      { gapWork st.inputs s with lastSnapshotTime := s.exposure.gapEnd.getD s.lastSnapshotTime }
    else gapWork st.inputs s
  | .lapse => lapseWork s

/-- A port without main power (R178). -/
def Port.dark : Port :=
  { phase := .idle, lastRefusal := none, cursor := 0, filter := none, flags := 0, mask := 0, frame := none, reply := [] }

/-- A compartment without main power: settings, door openings and last good reading are retained (section 10.2). Its
defrost ceiling in force, which section 3.1 does not keep, stays in the field until the resume start takes it from the
setting (DESIGN CHOICE, log 15). -/
def Compartment.dark (x : Compartment) : Compartment :=
  { x with
    defrost := .normal, shieldLeft := 0, recoveryLeft := 0, doorOpen := false, doorDeadline := none, held := 0,
    keptSource := none, snapshot := none }

/-- The Probe Scanner without main power: scan period and scan tag are retained. The period in force, which is lost, holds
the scan period (DESIGN CHOICE, log 15). -/
def Scanner.dark (x : Scanner) : Scanner :=
  { period := x.period, periodInForce := x.period, nextTick := none, phase := .idle, lag := 0, tag := x.tag, list := [],
    toPoll := [], span := none }

/-- Main power gone: every item of the right-hand column of section 10.2 lost (log 15). -/
def State.powerDown (s : State) : State :=
  { s with
    power := .lost, order := initialOrder, engine := none, moveAll := none, comps := s.comps.map Compartment.dark,
    scanner := s.scanner.dark, probes := Vector.replicate 8 .outOfService, exposure := .initial, lapseHeld := true,
    lapseWaiting := false, unitPort := .dark, dockPort := .dark }

/-- The step in progress completed whole, or abandoned (R153). -/
def State.settleStep (s : State) (completes : Bool) : State :=
  match s.engine with
  | some st => if completes then s.completeOnSupply st else s
  | none => s

/-- MAIN_POWER_LOSS (R153). -/
def execMainPowerLoss (stepCompletes : Bool) (s : State) : Host.Outcome State Fault Refusal :=
  .next (if s.powered then (s.settleStep stepCompletes).powerDown else s)

/-! ### The resume start (R154) -/

/-- POWER_GAP alone. -/
def powerGapOnly : FlagSet := powerGapFlag

/-- Stage 1: both ports up, POWER_GAP set in both copies (R154, R166). -/
def State.resumePorts (s : State) : State :=
  { s with lastStart := .resume, unitPort := .started powerGapOnly, dockPort := .started powerGapOnly }

/-- A compartment at a resume start (R53). -/
def Compartment.resume (x : Compartment) (now : RouteTime) (line : Bool) (period : Nat) : Compartment :=
  let y := { x.dark with ceilingInForce := x.settings.ceiling }
  if x.active then (y.sampleDoor now line).withOpeningSnapshot now period else y.switchOff y.settings

/-- Stage 2: every compartment in the form R53 gives. -/
def State.resumeComps (s : State) : State :=
  { s with comps := Vector.ofFn (fun c : CompNo => s.comps[c].resume s.clock s.doorLines[c] s.scanner.period) }

/-- Stage 3: the Probe Scanner IDLE with no tick held, and the probes in service UNREAD (R54, R69). -/
def State.resumeScanner (s : State) : State :=
  { s with
    scanner := s.scanner.dark
    probes := Vector.ofFn (fun n : ProbeNo => if s.inService n then .entered else .outOfService) }

/-- Stage 4: the retained queue with the lapse release held (R129). -/
def State.resumeHandover (s : State) : State := { s with lapseHeld := true, lapseWaiting := false }

/-- Stage 5: the gap pass begins, and the visit of slot 0 is the first step granted (R154, R21). -/
def State.resumeGap (s : State) : State :=
  State.grant
    { s with
      order := initialOrder
      exposure :=
        { passTag := none, accrualCursor := 0, gapCursor := 0, gapEnd := some s.clock,
          gapAmount := s.clock - s.lastSnapshotTime, gapExempt := Vector.replicate 128 false } }
    .gap .gap

/-- The stages of a resume start, in order. -/
def resumeStages : List (State → State) :=
  [State.resumePorts, State.resumeComps, State.resumeScanner, State.resumeHandover, State.resumeGap]

/-! ### The blank start (R158) -/

/-- Every item of the retention domain written to its empty form (R152, R158). -/
def State.writeEmpty (s : State) : State :=
  { s with
    clock := 0, lastSnapshotTime := 0, unitId := 0, lastStart := .blank, slots := Vector.replicate 128 none,
    useCount := Vector.replicate 8 0, occupancy := Vector.replicate 4 0, classes := Vector.replicate 8 none,
    comps := Vector.replicate 4 .initial, scanner := { s.scanner with period := Config.defaultPeriod, tag := 0 },
    offers := [], offerTimeout := Config.defaultTimeout }

/-- The validity mark set (R152). -/
def State.setMark (s : State) : State := { s with valid := true }

/-- The blocks brought up as their chapters give for a blank start. The door lines and the queue of commands are the
outside's. -/
def State.bringUpBlank (s : State) : State := { State.reset with doorLines := s.doorLines, pending := s.pending }

/-- The stages of a blank start, in order (log 7). -/
def blankStages : List (State → State) := [State.writeEmpty, State.setMark, State.bringUpBlank]

/-! ### The return of main power (R151) -/

/-- Stages run in order. -/
def runStages (stages : List (State → State)) (s : State) : State := stages.foldl (fun s f => f s) s

/-- The start the validity mark decides (R151). -/
def State.startStages (s : State) : List (State → State) := if s.valid then resumeStages else blankStages

/-- MAIN_POWER_RETURN: the whole start, or, with `some k`, a start that a further loss cuts after `k` stages (R151,
R152, log 7). -/
def execMainPowerReturn (cutAfter : Option Nat) (s : State) : Host.Outcome State Fault Refusal :=
  .next
    (if s.powered then s
     else match cutAfter with
       | none => runStages s.startStages { s with power := .present }
       | some k => (runStages (s.startStages.take k) { s with power := .present }).powerDown)

/-- RETENTION_SUPPLY_FAILS: without main power, the validity mark is cleared (R152, log 16). -/
def execRetentionSupplyFails (s : State) : Host.Outcome State Fault Refusal :=
  .next (if s.powered then s else { s with valid := false })

end Sys2Proof.Machine
end

