-- ==== Sys2Proof/Machine/Dispatch.lean ====
section
/-!
DEFINITION. The meaning of every command: one arm for each constructor of `Instr`.
-/
namespace Sys2Proof.Machine

def exec (i : Instr) (s : State) : Host.Outcome State Fault Refusal :=
  match i with
  | .frameRead p code => Sys2Proof.Machine.execFrameRead p code s
  | .unknownCommandFrame p count => Sys2Proof.Machine.execUnknownCommandFrame p count s
  | .readPortStatus p count => Sys2Proof.Machine.execReadPortStatus p count s
  | .pollFlags p count => Sys2Proof.Machine.execPollFlags p count s
  | .setFlagMask p bytes => Sys2Proof.Machine.execSetFlagMask p bytes s
  | .readResult p count => Sys2Proof.Machine.execReadResult p count s
  | .cancel p count => Sys2Proof.Machine.execCancel p count s
  | .portReset p count => Sys2Proof.Machine.execPortReset p count s
  | .admitFresh p bytes => Sys2Proof.Machine.execAdmitFresh p bytes s
  | .admitCarried p bytes => Sys2Proof.Machine.execAdmitCarried p bytes s
  | .discard p bytes => Sys2Proof.Machine.execDiscard p bytes s
  | .find p bytes => Sys2Proof.Machine.execFind p bytes s
  | .walk p bytes => Sys2Proof.Machine.execWalk p bytes s
  | .walkNext p bytes => Sys2Proof.Machine.execWalkNext p bytes s
  | .move p bytes => Sys2Proof.Machine.execMove p bytes s
  | .moveTrial p bytes => Sys2Proof.Machine.execMoveTrial p bytes s
  | .moveAll p bytes => Sys2Proof.Machine.execMoveAll p bytes s
  | .offer p bytes => Sys2Proof.Machine.execOffer p bytes s
  | .withdraw p bytes => Sys2Proof.Machine.execWithdraw p bytes s
  | .confirm p bytes => Sys2Proof.Machine.execConfirm p bytes s
  | .readStatement p bytes => Sys2Proof.Machine.execReadStatement p bytes s
  | .retire p bytes => Sys2Proof.Machine.execRetire p bytes s
  | .setOfferTimeout p bytes => Sys2Proof.Machine.execSetOfferTimeout p bytes s
  | .setClass p bytes => Sys2Proof.Machine.execSetClass p bytes s
  | .setClassUnset p bytes => Sys2Proof.Machine.execSetClassUnset p bytes s
  | .readClass p bytes => Sys2Proof.Machine.execReadClass p bytes s
  | .setCompartment p bytes => Sys2Proof.Machine.execSetCompartment p bytes s
  | .readCompartment p bytes => Sys2Proof.Machine.execReadCompartment p bytes s
  | .defrostStart p bytes => Sys2Proof.Machine.execDefrostStart p bytes s
  | .defrostEnd p bytes => Sys2Proof.Machine.execDefrostEnd p bytes s
  | .setScanPeriod p bytes => Sys2Proof.Machine.execSetScanPeriod p bytes s
  | .readScan p bytes => Sys2Proof.Machine.execReadScan p bytes s
  | .readClock p bytes => Sys2Proof.Machine.execReadClock p bytes s
  | .setClock p bytes => Sys2Proof.Machine.execSetClock p bytes s
  | .setUnitId p bytes => Sys2Proof.Machine.execSetUnitId p bytes s
  | .setClockEvent => Sys2Proof.Machine.execSetClockEvent s
  | .admitStep p ph => Sys2Proof.Machine.execAdmitStep p ph s
  | .findStep p ph => Sys2Proof.Machine.execFindStep p ph s
  | .walkStep p ph => Sys2Proof.Machine.execWalkStep p ph s
  | .moveStep ph => Sys2Proof.Machine.execMoveStep ph s
  | .trialMoveStep ph => Sys2Proof.Machine.execTrialMoveStep ph s
  | .moveAllSlot ph => Sys2Proof.Machine.execMoveAllSlot ph s
  | .discardStep ph => Sys2Proof.Machine.execDiscardStep ph s
  | .offerStep p ph => Sys2Proof.Machine.execOfferStep p ph s
  | .withdrawStep p ph => Sys2Proof.Machine.execWithdrawStep p ph s
  | .closeStep ph => Sys2Proof.Machine.execCloseStep ph s
  | .readStatementStep p ph => Sys2Proof.Machine.execReadStatementStep p ph s
  | .retireStep p ph => Sys2Proof.Machine.execRetireStep p ph s
  | .classTestStep ph => Sys2Proof.Machine.execClassTestStep ph s
  | .compartmentTestStep ph => Sys2Proof.Machine.execCompartmentTestStep ph s
  | .tableTestStep ph => Sys2Proof.Machine.execTableTestStep ph s
  | .routeClockSecond => Sys2Proof.Machine.execRouteClockSecond s
  | .doorOpens c => Sys2Proof.Machine.execDoorOpens c s
  | .doorCloses c => Sys2Proof.Machine.execDoorCloses c s
  | .doorLong c => Sys2Proof.Machine.execDoorLong c s
  | .scanTick => Sys2Proof.Machine.execScanTick s
  | .probeAnswer n answer checkAgrees => Sys2Proof.Machine.execProbeAnswer n answer checkAgrees s
  | .probeSilent => Sys2Proof.Machine.execProbeSilent s
  | .accrualVisit ph => Sys2Proof.Machine.execAccrualVisit ph s
  | .offerDeadlineReached => Sys2Proof.Machine.execOfferDeadlineReached s
  | .lapseStep ph => Sys2Proof.Machine.execLapseStep ph s
  | .mainPowerLoss stepCompletes => Sys2Proof.Machine.execMainPowerLoss stepCompletes s
  | .mainPowerReturn cutAfter => Sys2Proof.Machine.execMainPowerReturn cutAfter s
  | .retentionSupplyFails => Sys2Proof.Machine.execRetentionSupplyFails s
  | .gapVisit ph => Sys2Proof.Machine.execGapVisit ph s

end Sys2Proof.Machine
end

