-- ==== Sys2Proof/Safety.lean ====
section
/-!
DEFINITION. What holds of the NCX-24 in every state a run reaches: the relations its manual lays down between pieces of
state, each as a predicate of the whole state, and the conditions the statements use.
-/
namespace Sys2Proof.Machine

/-! ### The Custody Table (chapter 1) -/

/-- The arbiter's order ranks all five requesters, each once (R12). -/
def OrderRight (s : State) : Prop := s.order.Perm initialOrder

/-- No two non-FREE slots hold the same ID (R6), and the all-zero ID is never held (R5). -/
def IdsRight (s : State) : Prop :=
  (∀ (i : SlotNo) (r : Record), s.slots[i] = some r → r.id ≠ 0)
    ∧ ∀ (i j : SlotNo) (r q : Record), s.slots[i] = some r → s.slots[j] = some q → r.id = q.id → i = j

/-- How many live records satisfy a test. -/
def liveCount (slots : Vector (Option Record) 128) (f : Record → Bool) : Nat :=
  slotNumbers.countP (fun i => slots[i].any (fun r => r.live.isSome && f r))

/-- Each use count and each occupancy is the number of live records it counts (R8, R9). -/
def CountsRight (s : State) : Prop :=
  (∀ k : ClassNo, s.useCount[k] = liveCount s.slots (fun r => r.cls == k))
    ∧ ∀ c : CompNo, s.occupancy[c] = liveCount s.slots (fun r => r.comp == c)

/-- A live record's class is SET (R8) and its compartment ACTIVE (R9); a compartment that the step in progress found
ACTIVE is ACTIVE still (R10). -/
def UseRight (s : State) : Prop :=
  (∀ (i : SlotNo) (r : Record) (l : LiveFields), s.slots[i] = some r → r.live = some l →
      s.classes[r.cls].isSome = true ∧ s.comps[r.comp].active = true)
    ∧ ∀ st : StepInProgress, s.engine = some st →
      ∀ c : CompNo, st.inputs.comps[c].active = true → s.comps[c].active = true

/-! ### Classes and compartments (chapters 2 and 3) -/

/-- A temperature within −400..+500. -/
def TempRight (t : Int) : Prop := Config.tempMin ≤ t ∧ t ≤ Config.tempMax

/-- The contents of a SET class: ranges and ordering (R23, section 2.1). -/
def ClassRight (k : ClassLimits) : Prop :=
  TempRight k.upper ∧ TempRight k.hard ∧ k.upper < k.hard
    ∧ (∀ l : LowLimits, k.low = some l →
        TempRight l.lower ∧ TempRight l.floor ∧ l.floor < l.lower ∧ l.lower ≤ k.upper)
    ∧ k.warmBudget ≤ 16000000 ∧ k.coldBudget ≤ 16000000 ∧ 10 ≤ k.watchPercent ∧ k.watchPercent ≤ 95
    ∧ k.tolerance ≤ 86400

/-- Every SET class is as R23 asks. -/
def ClassesRight (s : State) : Prop := ∀ (k : ClassNo) (v : ClassLimits), s.classes[k] = some v → ClassRight v

/-- The relations of R35 within one compartment. -/
def CompRight (x : Compartment) : Prop :=
  x.shieldLeft ≤ x.settings.shieldBase ∧ x.recoveryLeft ≤ x.settings.recoveryLength
    ∧ (0 < x.shieldLeft → x.defrost ≠ .normal) ∧ (0 < x.recoveryLeft → x.defrost = .recovery)
    ∧ (x.doorDeadline.isSome = true → x.doorOpen = true)
    ∧ (x.settings.active = false →
        x.doorOpen = false ∧ x.defrost = .normal ∧ x.shieldLeft = 0 ∧ x.recoveryLeft = 0 ∧ x.held = 0
          ∧ x.doorDeadline = none ∧ x.lastGood = none ∧ x.snapshot = none)

/-- The relations of R35 in every compartment; the snapshot is present exactly while the compartment is ACTIVE, as long
as main power is present. -/
def CompsRight (s : State) : Prop :=
  ∀ c : CompNo, CompRight s.comps[c] ∧ (s.power = .present → s.comps[c].snapshot.isSome = s.comps[c].active)

/-- The settings of a compartment within the ranges of section 3.1. -/
def SettingsRight (v : Settings) : Prop :=
  -50 ≤ v.airOffset ∧ v.airOffset ≤ 50 ∧ v.holdLimit ≤ 15 ∧ 10 ≤ v.doorLimit ∧ v.doorLimit ≤ 3600
    ∧ TempRight v.ceiling ∧ v.shieldBase ≤ 255 ∧ v.recoveryLength ≤ 255

/-- The span of a scan or of a snapshot: 1..50,050 steps (section 4.2, R66). -/
def SpanRight (n : Nat) : Prop := 1 ≤ n ∧ n ≤ 50050

/-- A scan period in steps: 1..50 (section 4.2). -/
def PeriodRight (n : Nat) : Prop := 1 ≤ n ∧ n ≤ 50

/-- The Probe Scanner within the ranges of section 4.2; a scan in flight, and nothing else, has a span. -/
def ScannerRight (x : Scanner) : Prop :=
  PeriodRight x.period ∧ PeriodRight x.periodInForce ∧ x.lag ≤ 1000 ∧ (x.span.isSome = true ↔ x.phase ≠ .idle)
    ∧ ∀ n : Nat, x.span = some n → SpanRight n

/-- An offer timeout within its range (R130). -/
def TimeoutRight (n : Nat) : Prop := 10 ≤ n ∧ n ≤ 3600

/-- Settings, held counts, ceilings in force, snapshot spans, the scanner and the offer timeout within their ranges
(R35, sections 3.1 and 4.2, R130), with those that the step in progress has read. -/
def RangesRight (s : State) : Prop :=
  (∀ c : CompNo, SettingsRight s.comps[c].settings ∧ s.comps[c].held ≤ 15 ∧ TempRight s.comps[c].ceilingInForce
      ∧ ∀ n : Snapshot, s.comps[c].snapshot = some n → SpanRight n.span)
    ∧ ScannerRight s.scanner ∧ TimeoutRight s.offerTimeout
    ∧ ∀ st : StepInProgress, s.engine = some st → PeriodRight st.inputs.period ∧ TimeoutRight st.inputs.offerTimeout

/-- Settings as a SET COMPARTMENT with mode OFF carries them to its compartment test step: mode OFF, and the two items
that are not clamped within one byte (R49, R50). -/
def CarriesOff (v : Settings) : Prop := v.active = false ∧ v.shieldBase ≤ 255 ∧ v.recoveryLength ≤ 255

/-! ### Records (chapters 1, 5, 6 and 9) -/

/-- The ranges of a record's figures (sections 1.1, R87). -/
def FiguresRight (r : Record) : Prop :=
  r.warm ≤ 16777215 ∧ r.cold ≤ 16777215 ∧ r.excursion ≤ 4294967295 ∧ r.blind ≤ 4294967295 ∧ r.lapses ≤ 255
    ∧ (∀ l : LiveFields, r.live = some l → l.doorStored ≤ 65535)
    ∧ ∀ f : ClosedFields, r.custody = .closed f → f.doorFinal ≤ 65535

/-- Every record's figures lie in their ranges. -/
def RecordsRight (s : State) : Prop := ∀ (i : SlotNo) (r : Record), s.slots[i] = some r → FiguresRight r

/-- A record's cause agrees with its verdict, and it holds a carried cause exactly when its cause is CARRIED (R93). -/
def CauseAgrees (r : Record) : Prop :=
  match r.cause with
  | .nothing => r.verdict = .intact ∧ r.carriedCause = none
  | .reason c => c.verdict = r.verdict ∧ r.carriedCause = none
  | .carried => ∃ c : ReasonCause, r.carriedCause = some c ∧ c.verdict = r.verdict

/-- R93 of every record. -/
def JudgementsRight (s : State) : Prop := ∀ (i : SlotNo) (r : Record), s.slots[i] = some r → CauseAgrees r

/-- A closing step's copy of a class's limits and budgets within the ranges of section 2.1. -/
def LimitsRight (k : LimitsCopy) : Prop :=
  TempRight k.upper ∧ TempRight k.hard ∧ (∀ l : LowLimits, k.low = some l → TempRight l.lower ∧ TempRight l.floor)
    ∧ k.warmBudget ≤ 16000000 ∧ k.coldBudget ≤ 16000000

/-- Every CLOSED record's statement verifies: its check word is right and its closing unit is not 0 (R107, R140). -/
def ClosedRight (s : State) : Prop :=
  ∀ (i : SlotNo) (r : Record) (f : ClosedFields), s.slots[i] = some r → r.custody = .closed f →
    verifies (closedStatement r f) = true

/-- The offer queue holds exactly the OFFERED records, each once with its deadline, at most 16 (R128). -/
def OffersRight (s : State) : Prop :=
  s.offers.length ≤ 16 ∧ (s.offers.map Offer.slot).Nodup
    ∧ (∀ o ∈ s.offers, ∃ (r : Record) (l : LiveFields), s.slots[o.slot] = some r ∧ r.custody = .offered l o.deadline)
    ∧ ∀ (i : SlotNo) (r : Record) (l : LiveFields) (d : RouteTime),
        s.slots[i] = some r → r.custody = .offered l d → { slot := i, deadline := d } ∈ s.offers

/-- A closed record's copy of its limits within the ranges of section 2.1, and its scan period within its own (R137). -/
def ClosedLimitsRight (s : State) : Prop :=
  ∀ (i : SlotNo) (r : Record) (f : ClosedFields), s.slots[i] = some r → r.custody = .closed f →
    LimitsRight f.limits ∧ PeriodRight f.scanPeriod

/-- The offer queue stands in non-decreasing order of deadline (R128). -/
def OffersOrdered (s : State) : Prop := s.offers.Pairwise (fun x y => notLater x.deadline y.deadline = true)

/-- The wrap-safe rule compares every queued deadline aright (R147): each lies at most 3,600 s ahead of the clock and less
than 2^31 − 3,600 s behind it, and a step in progress began less than 2^31 − 3,600 s ago. -/
def DeadlinesNear (s : State) : Prop :=
  (∀ o ∈ s.offers, (s.clock + 3600 - o.deadline).toNat < 2147483648)
    ∧ ∀ st : StepInProgress, s.engine = some st → (s.clock - st.inputs.now).toNat < 2147480048

/-! ### Charged tags (R88) -/

/-- A live record carries the current scan tag, or the one before while a pass has still to visit its slot or main power
is lost. With this stand the relations that keep it: an accrual pass is in flight exactly while the scanner is CHARGING,
with the current tag (R71); no tick is held and no scan runs in a gap pass (R69); a record in an exempt slot carries the
current tag (R156); and a step in progress has read the current tag, or the one before when the forming of a scan has come
since it began, and, for an accrual visit, the snapshot of every live record's compartment (R74). -/
def TagsRight (s : State) : Prop :=
  (∀ (i : SlotNo) (r : Record) (l : LiveFields), s.slots[i] = some r → r.live = some l →
      (l.tag = s.scanner.tag ∨ l.tag = s.scanner.tag - 1)
        ∧ (s.power = .present →
            (s.exposure.passTag.isSome = true → i < s.exposure.accrualCursor → l.tag = s.scanner.tag)
              ∧ (s.exposure.gapEnd.isSome = true → i < s.exposure.gapCursor ∨ s.exposure.gapExempt[i] = true →
                  l.tag = s.scanner.tag)
              ∧ (s.exposure.passTag = none → s.exposure.gapEnd = none → l.tag = s.scanner.tag)))
    ∧ (s.exposure.passTag.isSome = true ↔ s.scanner.phase = .charging)
    ∧ (∀ g : ScanTag, s.exposure.passTag = some g → g = s.scanner.tag)
    ∧ (s.exposure.gapEnd.isSome = true → s.scanner.phase = .idle ∧ s.scanner.nextTick = none)
    ∧ ∀ st : StepInProgress, s.engine = some st →
        (st.inputs.tag = s.scanner.tag
            ∨ (st.inputs.tag = s.scanner.tag - 1 ∧ s.exposure.passTag.isSome = true ∧ s.exposure.accrualCursor = 0))
          ∧ (st.work = .accrual → s.exposure.passTag.isSome = true
              ∧ ∀ (i : SlotNo) (r : Record) (l : LiveFields), s.slots[i] = some r → r.live = some l →
                st.inputs.comps[r.comp].snapshot.isSome = true)
          ∧ (st.work = .gap → s.exposure.gapEnd.isSome = true)

/-! ### Temperatures (00, Conventions) -/

/-- An optional temperature within −400..+500. -/
def OptTempRight (t : Option Int) : Prop := ∀ x : Int, t = some x → TempRight x

/-- The temperatures a compartment holds. -/
def CompTempsRight (x : Compartment) : Prop :=
  OptTempRight x.lastGood ∧ ∀ n : Snapshot, x.snapshot = some n → OptTempRight n.reading.temp

/-- Every reading of a probe, last good reading, snapshot temperature and peak lies within −400..+500, those that the
step in progress has read included. -/
def TempsRight (s : State) : Prop :=
  (∀ n : ProbeNo, OptTempRight s.probes[n].reading) ∧ (∀ c : CompNo, CompTempsRight s.comps[c])
    ∧ (∀ (i : SlotNo) (r : Record), s.slots[i] = some r → OptTempRight r.peakHigh ∧ OptTempRight r.peakLow)
    ∧ ∀ st : StepInProgress, s.engine = some st → ∀ c : CompNo, CompTempsRight st.inputs.comps[c]

/-! ### Ports and the table engine (sections 1.5 and 12.3) -/

/-- The port and the command that a step in progress works for, if any. -/
def StepWork.forPort : StepWork → Option (PortId × PortCommand)
  | .port p cmd => some (p, cmd)
  | .moveAllSlot _ _ _ => some (.unit, .moveAll)
  | .accrual => none
  | .gap => none
  | .lapse => none

/-- Whether a port works for a command in flight or has it waiting. -/
def PortPhase.inFlight : PortPhase → Option PortCommand
  | .idle => none
  | .waiting cmd => some cmd
  | .working cmd => some cmd
  | .result _ => none

/-- A port is WORKING exactly while a step of its command in flight is in progress and not discarded (R173); a move-all
record exists exactly while the Unit Port's command in flight is a MOVE ALL (R120), which the Dock Port never has; a
READ RESULT that found a result waiting still finds it at its close (R174); a walk whose result is held has no step in
progress, and no CANCEL of the Dock Port holds one (R176); a MOVE ALL works through slot steps alone (R120); and without
main power nothing is in progress (R153). -/
def PortsRight (s : State) : Prop :=
  (∀ (p : PortId) (cmd : PortCommand),
      (s.port p).phase = .working cmd ↔
        ∃ st : StepInProgress, s.engine = some st ∧ st.discarded = false ∧ st.work.forPort = some (p, cmd))
    ∧ (s.moveAll.isSome = true ↔ s.unitPort.phase.inFlight = some .moveAll)
    ∧ s.dockPort.phase.inFlight ≠ some .moveAll
    ∧ (∀ (p : PortId) (fr : OpenFrame) (n : Nat),
        (s.port p).frame = some fr → fr.capture = .result .waiting n → ∃ r : Result, (s.port p).phase = .result r)
    ∧ (∀ (m : MoveAllRecord) (r : Result),
        s.moveAll = some m → m.hold = .ended r → s.unitPort.phase = .waiting .moveAll)
    ∧ (∀ fr : OpenFrame, s.dockPort.frame = some fr → fr.capture ≠ .cancel true)
    ∧ (∀ (st : StepInProgress) (p : PortId), s.engine = some st → st.work ≠ .port p .moveAll)
    ∧ (s.power = .lost → s.engine = none ∧ s.moveAll = none)

/-- Every SET COMPARTMENT with mode OFF that waits, is at work or has its step in progress carries mode OFF. -/
def OffCommandsRight (s : State) : Prop :=
  (∀ (p : PortId) (c : CompNo) (v : Settings), (s.port p).phase.inFlight = some (.setCompartmentOff c v) → CarriesOff v)
    ∧ ∀ (st : StepInProgress) (p : PortId) (c : CompNo) (v : Settings), s.engine = some st →
        st.work = .port p (.setCompartmentOff c v) → CarriesOff v

/-! ### Frames (chapter 12) -/

/-- A queued command's frame as section 12.6 gives it: the port, the code, the length, whether the Unit Port and the Dock
Port may send it, and the bytes clocked in after the code. -/
structure QueuedFrame where
  port : PortId
  code : Byte
  length : Nat
  unit : Bool
  dock : Bool
  bytes : List Byte

/-- The row of section 12.6 that a queued command's close belongs to. FORCE is the Unit Port's alone. -/
def queuedFrame : Instr → Option QueuedFrame
  | .admitFresh p b => some ⟨p, 0x10, 15, true, true, b⟩
  | .admitCarried p b => some ⟨p, 0x11, 79, true, true, b⟩
  | .discard p b => some ⟨p, 0x12, 13, true, false, b⟩
  | .find p b => some ⟨p, 0x14, 13, true, true, b⟩
  | .walk p b => some ⟨p, 0x15, 4, true, true, b⟩
  | .walkNext p b => some ⟨p, 0x16, 1, true, true, b⟩
  | .move p b => some ⟨p, 0x18, 15, true, false, b⟩
  | .moveTrial p b => some ⟨p, 0x18, 15, true, false, b⟩
  | .moveAll p b => some ⟨p, 0x19, 3, true, false, b⟩
  | .offer p b => some ⟨p, 0x20, 15, true, true, b⟩
  | .withdraw p b => some ⟨p, 0x21, 13, true, true, b⟩
  | .confirm p b => some ⟨p, 0x22, 17, false, true, b⟩
  | .readStatement p b => some ⟨p, 0x23, 13, true, true, b⟩
  | .retire p b => some ⟨p, 0x24, 14, true, !(byteAt 12 b).getLsbD 0, b⟩
  | .setOfferTimeout p b => some ⟨p, 0x28, 3, true, false, b⟩
  | .setClass p b => some ⟨p, 0x30, 24, true, false, b⟩
  | .setClassUnset p b => some ⟨p, 0x30, 24, true, false, b⟩
  | .readClass p b => some ⟨p, 0x31, 2, true, true, b⟩
  | .setCompartment p b => some ⟨p, 0x38, 12, true, false, b⟩
  | .readCompartment p b => some ⟨p, 0x39, 2, true, true, b⟩
  | .defrostStart p b => some ⟨p, 0x3A, 2, true, false, b⟩
  | .defrostEnd p b => some ⟨p, 0x3B, 2, true, false, b⟩
  | .setScanPeriod p b => some ⟨p, 0x40, 2, true, false, b⟩
  | .readScan p b => some ⟨p, 0x41, 1, true, false, b⟩
  | .readClock p b => some ⟨p, 0x48, 1, true, true, b⟩
  | .setClock p b => some ⟨p, 0x49, 5, true, false, b⟩
  | .setUnitId p b => some ⟨p, 0x4A, 3, true, false, b⟩
  | _ => none

/-- The port whose frame a read or a close belongs to. -/
def framePort : Instr → Option PortId
  | .frameRead p _ => some p
  | .unknownCommandFrame p _ => some p
  | .readPortStatus p _ => some p
  | .pollFlags p _ => some p
  | .setFlagMask p _ => some p
  | .readResult p _ => some p
  | .cancel p _ => some p
  | .portReset p _ => some p
  | c => (queuedFrame c).map QueuedFrame.port

/-- The command that a queued command handled by a table step waits as, with its parameters at the offsets of section
12.6. WALK waits whatever its compartment value, and SET COMPARTMENT with mode OFF when it names a compartment. -/
def waitsAs : Instr → Option PortCommand
  | .admitFresh _ b => some (.admitFresh (BitVec.ofNat 96 (natAt 0 12 b)) (classField (byteAt 12 b)) (byteAt 13 b))
  | .admitCarried _ b => some (.admitCarried (b.take 76) (classField (byteAt 76 b)) (byteAt 77 b))
  | .discard _ b => some (.discard (BitVec.ofNat 96 (natAt 0 12 b)))
  | .find _ b => some (.find (BitVec.ofNat 96 (natAt 0 12 b)))
  | .walk _ b =>
    some (.walk
      (if (byteAt 0 b).toNat = 0 then some (filterField none b)
       else (compField (byteAt 0 b)).map (fun c => filterField (some c) b)))
  | .walkNext _ _ => some .walkNext
  | .move _ b => some (.move (BitVec.ofNat 96 (natAt 0 12 b)) (byteAt 12 b))
  | .moveTrial _ b => some (.moveTrial (BitVec.ofNat 96 (natAt 0 12 b)) (byteAt 12 b))
  | .offer _ b => some (.offer (BitVec.ofNat 96 (natAt 0 12 b)) (natAt 12 2 b))
  | .withdraw _ b => some (.withdraw (BitVec.ofNat 96 (natAt 0 12 b)))
  | .confirm _ b => some (.confirm (BitVec.ofNat 96 (natAt 0 12 b)) (BitVec.ofNat 32 (natAt 12 4 b)))
  | .readStatement _ b => some (.readStatement (BitVec.ofNat 96 (natAt 0 12 b)))
  | .retire _ b => some (.retire (BitVec.ofNat 96 (natAt 0 12 b)) ((byteAt 12 b).getLsbD 0))
  | .setClass _ b =>
    some (.setClass (classField (byteAt 0 b))
      { upper := intAt 2 b, hard := intAt 4 b, lower := intAt 6 b, floor := intAt 8 b, warmBudget := natAt 10 4 b,
        coldBudget := natAt 14 4 b, watchPercent := (byteAt 18 b).toNat, tolerance := natAt 19 4 b })
  | .setClassUnset _ b => some (.setClassUnset (classField (byteAt 0 b)))
  | .setCompartment _ b =>
    if (byteAt 1 b).getLsbD 0 = true then none
    else (compField (byteAt 0 b)).map (fun c => .setCompartmentOff c
      { active := false, simulant := (byteAt 1 b).getLsbD 1, air := (byteAt 1 b).getLsbD 2, airOffset := intAt 2 b,
        holdLimit := (byteAt 4 b).toNat, doorLimit := natAt 5 2 b, ceiling := intAt 7 b,
        shieldBase := (byteAt 9 b).toNat, recoveryLength := (byteAt 10 b).toNat })
  | .setUnitId _ b => some (.setUnitId (BitVec.ofNat 16 (natAt 0 2 b)))
  | _ => none

/-- Whether the port of a frame may send it (the Ports column of section 12.6). -/
def QueuedFrame.permitted (f : QueuedFrame) : Bool :=
  match f.port with
  | .unit => f.unit
  | .dock => f.dock

/-- A frame of some code is open on a port, on main power. -/
def State.frameOpen (s : State) (p : PortId) (code : Byte) : Prop :=
  s.power = .present ∧ (s.port p).frame.map OpenFrame.code = some code

/-- A frame of some code is open on a port, on main power, with what its read captured. -/
def State.frameIs (s : State) (p : PortId) (code : Byte) (capture : Capture) : Prop :=
  s.power = .present ∧ (s.port p).frame = some { code := code, capture := capture }

/-- A queued command's close passes the tests of R169: its frame is open with its code and length, the port may send it,
and the port is IDLE or RESULT. -/
def State.accepts (s : State) (f : QueuedFrame) : Prop :=
  s.frameOpen f.port f.code ∧ f.bytes.length + 1 = f.length ∧ f.permitted = true
    ∧ (s.port f.port).phase.inFlight = none

/-- The close of a port's frame that leaves the port in some phase. -/
def State.closedInto (s : State) (p : PortId) (ph : PortPhase) : State :=
  s.setPort p { s.port p with frame := none, phase := ph }

/-- The close of a port's frame that is refused: nothing but the frame and the last-refusal record changes (R169, R170). -/
def State.refusedWith (s : State) (p : PortId) (code : RefusalCode) (command : Byte) (count : Nat) : State :=
  s.setPort p
    { s.port p with frame := none, lastRefusal := some { code := code, command := command, count := min 255 count } }

/-- A result: code, command code, data. -/
def resultOf (code : ResultCode) (command : Byte) (data : List Byte) : Result :=
  { code := code, command := command, data := data }

/-! ### Table steps (section 1.5) -/

/-- A port's step for a command is in progress on main power, not discarded, with what it read as it began. -/
def State.stepIs (s : State) (p : PortId) (cmd : PortCommand) (inp : StepInputs) : Prop :=
  s.power = .present ∧ s.engine = some { work := .port p cmd, inputs := inp, discarded := false }

/-- A step of no port is in progress on main power, with what it read as it began. -/
def State.workIs (s : State) (w : StepWork) (inp : StepInputs) : Prop :=
  s.power = .present ∧ s.engine = some { work := w, inputs := inp, discarded := false }

/-- The end of a port's step: the engine free and the port in RESULT with its answer (R173). -/
def State.stepEnds (s : State) (p : PortId) (r : Result) : State := State.setPhase { s with engine := none } p (.result r)

/-- A slot's record is the one an ID names (R5). -/
def State.idAt (s : State) (id : ConsignmentId) (i : SlotNo) (r : Record) : Prop := s.slots[i] = some r ∧ r.id = id

/-- No non-FREE slot holds an ID (R5). -/
def State.idFree (s : State) (id : ConsignmentId) : Prop := ∀ (i : SlotNo) (r : Record), s.slots[i] = some r → r.id ≠ id

/-- A compartment field names one of the compartments that a step found ACTIVE. -/
def namesActive (inp : StepInputs) (b : Byte) (c : CompNo) : Prop :=
  b.toNat = c.val + 1 ∧ inp.comps[c].active = true

/-- The answers of an admit step to the checks BAD_ID to TABLE_FULL, in their order, for the ID, the class and the
compartment of its command (R104); a refusal changes nothing but the end of the step, and TABLE_FULL alone raises its
condition (R7). -/
def AdmissionChecked (p : PortId) (row : Instr) (command : Byte) (id : ConsignmentId) (cls : ClassNo) (comp : Byte)
    (inp : StepInputs) (s : State) : Prop :=
  let answers (code : ResultCode) : Prop := exec row s = .next (s.stepEnds p (resultOf code command []))
  (id = 0 → answers .badId)
    ∧ (id ≠ 0 → (∀ c : CompNo, ¬namesActive inp comp c) → answers .badCompartment)
    ∧ ∀ c : CompNo, id ≠ 0 → namesActive inp comp c →
      (s.classes[cls] = none → answers .classUnset)
        ∧ ∀ k : ClassLimits, s.classes[cls] = some k →
          (¬s.idFree id → answers .duplicate)
            ∧ (s.idFree id → (∀ i : SlotNo, s.slots[i] ≠ none) →
                exec row s = .next ((s.raise (BitVec.twoPow 38 33)).stepEnds p (resultOf .tableFull command [])))

/-- The door exposures of a live record: R2's sum, saturating at 65,535. -/
def doorFigure (inp : StepInputs) (r : Record) (l : LiveFields) : Nat :=
  min 65535 ((inp.comps[r.comp].openings - l.doorBase).toNat + l.doorStored)

/-- A record matches a walk filter in all three parts (R16). -/
def Matches (f : WalkFilter) (r : Record) : Prop :=
  (∀ c : CompNo, f.comp = some c → r.comp = c)
    ∧ (match r.custody with
       | .aboard _ => f.aboard = true
       | .offered _ _ => f.offered = true
       | .closed _ => f.closed = true)
    ∧ f.least.rank ≤ r.verdict.rank

/-- The row of the opcode table that tells the step of a port's command. The Dock Port has no step of a command that the
Unit Port alone may send, and the Unit Port none of CONFIRM; MOVE ALL and SET CLOCK have no step of this kind. -/
def stepRow : PortId → PortCommand → Option (StepPhase → Instr)
  | p, .admitFresh _ _ _ => some (.admitStep p)
  | p, .admitCarried _ _ _ => some (.admitStep p)
  | .unit, .discard _ => some .discardStep
  | .dock, .discard _ => none
  | p, .find _ => some (.findStep p)
  | p, .walk _ => some (.walkStep p)
  | p, .walkNext => some (.walkStep p)
  | .unit, .move _ _ => some .moveStep
  | .dock, .move _ _ => none
  | .unit, .moveTrial _ _ => some .trialMoveStep
  | .dock, .moveTrial _ _ => none
  | _, .moveAll => none
  | p, .offer _ _ => some (.offerStep p)
  | p, .withdraw _ => some (.withdrawStep p)
  | .dock, .confirm _ _ => some .closeStep
  | .unit, .confirm _ _ => none
  | p, .readStatement _ => some (.readStatementStep p)
  | p, .retire _ _ => some (.retireStep p)
  | .unit, .setClass _ _ => some .classTestStep
  | .dock, .setClass _ _ => none
  | .unit, .setClassUnset _ => some .classTestStep
  | .dock, .setClassUnset _ => none
  | .unit, .setCompartmentOff _ _ => some .compartmentTestStep
  | .dock, .setCompartmentOff _ _ => none
  | _, .setClock _ => none
  | .unit, .setUnitId _ => some .tableTestStep
  | .dock, .setUnitId _ => none

/-- The requester that a step row at its grant belongs to. -/
def grantTo : Instr → Option Requester
  | .admitStep p .begins => some (requesterOf p)
  | .findStep p .begins => some (requesterOf p)
  | .walkStep p .begins => some (requesterOf p)
  | .moveStep .begins => some .unitPort
  | .trialMoveStep .begins => some .unitPort
  | .moveAllSlot .begins => some .unitPort
  | .discardStep .begins => some .unitPort
  | .offerStep p .begins => some (requesterOf p)
  | .withdrawStep p .begins => some (requesterOf p)
  | .closeStep .begins => some .dockPort
  | .readStatementStep p .begins => some (requesterOf p)
  | .retireStep p .begins => some (requesterOf p)
  | .classTestStep .begins => some .unitPort
  | .compartmentTestStep .begins => some .unitPort
  | .tableTestStep .begins => some .unitPort
  | .accrualVisit .begins => some .accrual
  | .lapseStep .begins => some .lapse
  | .gapVisit .begins => some .gap
  | _ => none

/-- The two rows that stop the arbiter and start it afresh (R12). -/
def powerRow : Instr → Bool
  | .mainPowerLoss _ => true
  | .mainPowerReturn _ => true
  | _ => false

/-- How many steps of other requesters a sequence of commands begins before `r` is granted, ceases to wait, or main power
goes or returns. -/
def grantsAhead (r : Requester) : List Instr → State → Nat
  | [], _ => 0
  | c :: cs, s =>
    if powerRow c = true ∨ s.stepWaiting r = false then 0
    else match exec c s with
      | .next t =>
        if s.engine.isNone = true ∧ t.engine.isSome = true then
          if grantTo c = some r then 0 else 1 + grantsAhead r cs t
        else grantsAhead r cs t
      | _ => 0

/-- The ID that a command names to find its record (R5); ADMIT's is another matter. -/
def namedId : PortCommand → Option ConsignmentId
  | .discard id => some id
  | .find id => some id
  | .move id _ => some id
  | .moveTrial id _ => some id
  | .offer id _ => some id
  | .withdraw id => some id
  | .confirm id _ => some id
  | .readStatement id => some id
  | .retire id _ => some id
  | _ => none

/-- Whether a record's state is the one a command asks for (the table of section 1.2; R118 for a trial). -/
def stateFits : PortCommand → Custody → Bool
  | .discard _, .aboard _ => true
  | .move _ _, .aboard _ => true
  | .moveTrial _ _, .aboard _ => true
  | .moveTrial _ _, .offered _ _ => true
  | .offer _ _, .aboard _ => true
  | .withdraw _, .offered _ _ => true
  | .confirm _ _, .offered _ _ => true
  | .retire _ _, .closed _ => true
  | .find _, _ => true
  | .readStatement _, _ => true
  | _, _ => false

/-- Whether the lapse has a step waiting for a queue: its head deadline is reached and the lapse release is released
(R129). -/
def lapseDue (s : State) (q : List Offer) : Bool :=
  !s.lapseHeld && (match q with
    | [] => false
    | o :: _ => reached s.clock o.deadline)

/-! ### Judgement (chapter 6) -/

/-- The highest of a verdict and every verdict reached (R94). -/
def HighestOf (v : Verdict) (reached : ReasonCause → Prop) (w : Verdict) : Prop :=
  v.rank ≤ w.rank ∧ (w = v ∨ ∃ c : ReasonCause, reached c ∧ c.verdict = w)
    ∧ ∀ c : ReasonCause, reached c → c.verdict.rank ≤ w.rank

/-- The first cause in the cause order among those reached whose verdict is `w` (R94). -/
def FirstReached (reached : ReasonCause → Prop) (w : Verdict) (c : ReasonCause) : Prop :=
  reached c ∧ c.verdict = w
    ∧ ∀ d : ReasonCause, reached d → d.verdict = w → causeOrder.idxOf c ≤ causeOrder.idxOf d

/-- The set of verdicts reached applied to a record in one act (R94, R96): `q` is the record after, and `fl` the flag
raised. -/
def Applied (r q : Record) (fl : FlagSet) (reached : ReasonCause → Prop) : Prop :=
  ∃ w : Verdict, HighestOf r.verdict reached w
    ∧ if w = r.verdict then q = r ∧ fl = 0
      else ∃ c : ReasonCause, FirstReached reached w c
        ∧ q = { r with verdict := w, cause := .reason c, carriedCause := none } ∧ fl = verdictFlag w r.comp

/-- The four budget and watch tests (R85). -/
def BudgetReached (k : ClassLimits) (warm cold : Nat) : ReasonCause → Prop
  | .warmBudget => k.warmBudget < warm
  | .coldBudget => k.low.isSome = true ∧ k.coldBudget < cold
  | .watchWarm => 0 < warm ∧ k.watchPercent * k.warmBudget ≤ warm * 100
  | .watchCold => k.low.isSome = true ∧ 0 < cold ∧ k.watchPercent * k.coldBudget ≤ cold * 100
  | .hardHigh => False
  | .hardLow => False
  | .blind => False

/-- The hard limits on a temperature (R80). -/
def HardReached (k : ClassLimits) (high low : Option Int) : ReasonCause → Prop
  | .hardHigh => ∃ t : Int, high = some t ∧ k.hard ≤ t
  | .hardLow => ∃ (t : Int) (l : LowLimits), low = some t ∧ k.low = some l ∧ t ≤ l.floor
  | .warmBudget => False
  | .coldBudget => False
  | .watchWarm => False
  | .watchCold => False
  | .blind => False

/-- The blind test (R78, R97, R98). -/
def BlindReached (k : ClassLimits) (blind : Nat) (c : ReasonCause) : Prop := c = .blind ∧ k.tolerance < blind

/-- The warm and the cold excess of a temperature under a class: Te − U with R81's effective temperature, and L − T. -/
def excesses (k : ClassLimits) (ceilingInForce : Int) (shielded : Bool) (t : Int) : Nat × Nat :=
  let te := if shielded = true ∧ t ≤ ceilingInForce then min t k.upper else t
  (if k.upper < te then (te - k.upper).toNat else 0,
    match k.low with
    | some l => if t < l.lower then (l.lower - t).toNat else 0
    | none => 0)

/-! ### What never falls -/

/-- What never falls while a slot's record is non-FREE (R87, R92). -/
def NotFallen (r q : Record) : Prop :=
  r.warm ≤ q.warm ∧ r.cold ≤ q.cold ∧ r.excursion ≤ q.excursion ∧ r.blind ≤ q.blind ∧ r.verdict.rank ≤ q.verdict.rank

end Sys2Proof.Machine
end

