-- ==== Sys2Proof/Certificates/Slice0/Obligations.lean ====
section
/-!
DEFINITION. The statements for the provers. A statement about an end of a step says the whole next state, or its frame
field by field; `State.setPort` and the other record updates it uses are those of Machine/.
-/
section
open Sys2Proof Sys2Proof.Machine

/-! ## The queue of commands and the reset -/

/-- A step takes the command at the front of the queue and carries it out on the rest; with an empty queue the block
idles. The queue is the model's own (logs 3 and 4). -/
def Sys2Proof.Machine.StepTakesFrontCommand : Prop :=
  ∀ (c : Instr) (rest : List Instr) (s : State),
    step { s with pending := c :: rest } = exec c { s with pending := rest }
      ∧ step { s with pending := [] } = .next { s with pending := [] }

/-- No command stops the part, and none but a step changes the queue (R169: what is declined is answered or recorded). -/
def Sys2Proof.Machine.EveryCommandAnswersANextState : Prop :=
  ∀ (c : Instr) (s : State), ∃ t : State, exec c s = .next t ∧ t.pending = s.pending

/-- A step carries out the front command, and no command stops the part. -/
def Obligations.StepRunsTheFrontCommand : Prop := StepTakesFrontCommand ∧ EveryCommandAnswersANextState

/-- The values after a blank start (R158 and the rules it gathers: R21, R34, R52, R54, R166, R171, section 4.2). -/
def Obligations.ResetHasTheBlankStartValues : Prop :=
  let s := State.reset
  s.power = .present ∧ s.clock = 0 ∧ s.lastSnapshotTime = 0 ∧ s.unitId = 0 ∧ s.lastStart = .blank ∧ s.valid = true
    ∧ (∀ i : SlotNo, s.slots[i] = none) ∧ (∀ k : ClassNo, s.useCount[k] = 0 ∧ s.classes[k] = none)
    ∧ (∀ c : CompNo, s.occupancy[c] = 0
        ∧ s.comps[c].settings = { active := false, simulant := false, air := false, airOffset := 0, holdLimit := 2,
                                  doorLimit := 600, ceiling := 0, shieldBase := 0, recoveryLength := 0 }
        ∧ s.comps[c].openings = 0 ∧ s.comps[c].ceilingInForce = 0 ∧ CompRight s.comps[c])
    ∧ s.offers = [] ∧ s.offerTimeout = 600 ∧ s.lapseHeld = false
    ∧ s.scanner.period = 5 ∧ s.scanner.periodInForce = 5 ∧ s.scanner.tag = 0 ∧ s.scanner.nextTick = some 30
    ∧ s.scanner.phase = .idle ∧ s.scanner.lag = 0 ∧ s.scanner.list = [] ∧ s.scanner.span = none
    ∧ (∀ n : ProbeNo, s.probes[n].status = .absent ∧ s.probes[n].reading = none)
    ∧ s.exposure.passTag = none ∧ s.exposure.accrualCursor = 0 ∧ s.exposure.gapEnd = none
    ∧ (∀ i : SlotNo, s.exposure.gapExempt[i] = false)
    ∧ (∀ p : PortId, (s.port p).phase = .idle ∧ (s.port p).lastRefusal = none ∧ (s.port p).cursor = 0
        ∧ (s.port p).filter = none ∧ (s.port p).flags = BitVec.twoPow 38 36 ∧ (s.port p).mask = BitVec.allOnes 38
        ∧ s.readyLine p = true)
    ∧ s.order = [.accrual, .lapse, .unitPort, .dockPort, .gap] ∧ s.engine = none ∧ s.moveAll = none
    ∧ (∀ r : Requester, s.stepWaiting r = false)

/-- Every invariant of this file holds at reset. -/
def Obligations.ResetMeetsEveryInvariant : Prop :=
  let s := State.reset
  OrderRight s ∧ IdsRight s ∧ CountsRight s ∧ UseRight s ∧ ClassesRight s ∧ CompsRight s ∧ RecordsRight s
    ∧ JudgementsRight s ∧ ClosedRight s ∧ OffersRight s ∧ TempsRight s ∧ PortsRight s
    ∧ RangesRight s ∧ OffCommandsRight s ∧ ClosedLimitsRight s ∧ OffersOrdered s ∧ DeadlinesNear s ∧ TagsRight s

/-! ## Frames and direct commands (chapters 11 and 12) -/

/-- A frame's read (R169): a direct command captures the reply its partner clocks out, and nothing else changes. CANCEL
on the Unit Port while a MOVE ALL is in flight is CancelHoldsTheWalkAtItsRead's. -/
def Sys2Proof.Machine.FrameReadCapturesTheReply : Prop :=
  ∀ (p : PortId) (code : Byte) (s : State), s.power = .present → (s.port p).frame = none →
    ¬(p = .unit ∧ code = 0x05 ∧ s.moveAll.isSome = true) →
    ∃ (capture : Capture) (reply : List Byte),
      exec (.frameRead p code) s
          = .next (s.setPort p { s.port p with frame := some { code := code, capture := capture }, reply := reply })
        ∧ (code = 0x01 → capture = .nothing ∧ reply =
            [(s.port p).phase.byte] ++ (match (s.port p).lastRefusal with
              | some r => [r.code.byte, r.command, BitVec.ofNat 8 r.count]
              | none => [0, 0, 0])
            ++ [match (s.port p).phase with
              | .idle => 0
              | .waiting cmd => cmd.code
              | .working cmd => cmd.code
              | .result r => r.command])
        ∧ (code = 0x02 → capture = .poll (s.port p).flags 0 ∧ reply = flagBytes (s.port p).flags)
        ∧ (code = 0x04 → match (s.port p).phase with
            | .idle => capture = .result .empty 0 ∧ reply = [0xF0, 0, 0, 0]
            | .waiting _ => capture = .result .notReady 0 ∧ reply = [0xF1, 0, 0, 0]
            | .working _ => capture = .result .notReady 0 ∧ reply = [0xF1, 0, 0, 0]
            | .result r => capture = .result .waiting r.data.length
                ∧ reply = [r.code.byte, r.command] ++ beBytes 2 r.data.length ++ r.data)
        ∧ (code = 0x05 → capture = .cancel false ∧ reply = [0x00, 0x00])
        ∧ (code = 0x06 → capture = .nothing ∧ reply = [0x00])
        ∧ (code ∉ [0x01, 0x02, 0x04, 0x05, 0x06] → capture = .nothing ∧ reply = [])

/-- A frame whose code section 12.6 does not list is refused with UNKNOWN_COMMAND, and nothing else changes (R169,
R170). -/
def Sys2Proof.Machine.UnlistedCodeIsRecordedAsUnknown : Prop :=
  ∀ (p : PortId) (count : Nat) (code : Byte) (s : State), s.frameOpen p code →
    code.toNat ∉ [0x01, 0x02, 0x03, 0x04, 0x05, 0x06, 0x10, 0x11, 0x12, 0x14, 0x15, 0x16, 0x18, 0x19, 0x20, 0x21, 0x22,
      0x23, 0x24, 0x28, 0x30, 0x31, 0x38, 0x39, 0x3A, 0x3B, 0x40, 0x41, 0x48, 0x49, 0x4A] →
    exec (.unknownCommandFrame p count) s = .next (s.refusedWith p .unknownCommand code count)

/-- A queued command's close is tested for length, permission and busy state in that order; the first test that fails is
recorded with the code and the count, and nothing else changes (R169, R170, section 12.6). -/
def Sys2Proof.Machine.QueuedFrameRefusedInOrder : Prop :=
  ∀ (c : Instr) (f : QueuedFrame) (s : State), queuedFrame c = some f → s.frameOpen f.port f.code →
    let n := f.bytes.length + 1
    (n ≠ f.length → exec c s = .next (s.refusedWith f.port .frameLength f.code n))
      ∧ (n = f.length → f.permitted = false → exec c s = .next (s.refusedWith f.port .notPermitted f.code n))
      ∧ (n = f.length → f.permitted = true → (s.port f.port).phase.inFlight.isSome = true →
          exec c s = .next (s.refusedWith f.port .busy f.code n))

/-- READ PORT STATUS clears the last-refusal record at a close of its length; another length becomes the last refusal
(R170, R175). -/
def Sys2Proof.Machine.PortStatusCloseClearsTheRefusal : Prop :=
  ∀ (p : PortId) (count : Nat) (s : State), s.frameOpen p 0x01 →
    exec (.readPortStatus p count) s = .next
      (if count = 6 then s.setPort p { s.port p with frame := none, lastRefusal := none }
       else s.refusedWith p .frameLength 0x01 count)

/-- A condition raised between a poll's read and its close is never lost: the close clears exactly the flags returned and
not raised again since, in its own port's copy alone (R160, R162, R163). -/
def Sys2Proof.Machine.PollLosesNoRaise : Prop :=
  ∀ (p : PortId) (s s' : State) (raised : FlagSet), s.power = .present → (s.port p).frame = none →
    exec (.frameRead p 0x02) s = .next s' →
    ∃ t : State, exec (.pollFlags p 6) (s'.raise raised) = .next t
      ∧ (t.port p).flags = raised ∧ (t.port p).frame = none
      ∧ (∀ q : PortId, q ≠ p → (t.port q) = (s.port q).raise raised)
      ∧ (t.port p).mask = (s.port p).mask ∧ (t.port p).phase = (s.port p).phase ∧ t.slots = s.slots

/-- POLL FLAGS at its close: per flag, and with any other length no flag is cleared (R162). -/
def Sys2Proof.Machine.PollCloseClearsWhatItReturned : Prop :=
  ∀ (p : PortId) (count : Nat) (returned raised : FlagSet) (s : State), s.frameIs p 0x02 (.poll returned raised) →
    (count ≠ 6 → exec (.pollFlags p count) s = .next (s.refusedWith p .frameLength 0x02 count))
      ∧ (count = 6 → ∃ flags : FlagSet,
          exec (.pollFlags p count) s = .next (s.setPort p { s.port p with frame := none, flags := flags })
            ∧ ∀ i : Nat, flags.getLsbD i
                = ((s.port p).flags.getLsbD i && (!returned.getLsbD i || raised.getLsbD i)))

/-- POLL FLAGS (R162, R163). -/
def Obligations.PollsLoseNoRaise : Prop := PollLosesNoRaise ∧ PollCloseClearsWhatItReturned

/-- SET FLAG MASK stores the 38 flags its five bytes name and echoes them with the unused bits 0; with another length
the mask stays (R164, R183). -/
def Sys2Proof.Machine.FlagMaskStoredAsCarried : Prop :=
  ∀ (p : PortId) (bytes : List Byte) (s : State), s.frameOpen p 0x03 →
    ∃ (mask : FlagSet) (reply : List Byte),
      (bytes.length = 10 →
          (∀ j k : Nat, j < 5 → k < 8 → 8 * j + k < 38 → mask.getLsbD (8 * j + k) = (byteAt j bytes).getLsbD k)
          ∧ (∀ j k : Nat, j < 5 → k < 8 → (byteAt j reply).getLsbD k = mask.getLsbD (8 * j + k)) ∧ reply.length = 5
          ∧ exec (.setFlagMask p bytes) s
              = .next (s.setPort p { s.port p with frame := none, mask := mask, reply := reply }))
        ∧ (bytes.length ≠ 10 → exec (.setFlagMask p bytes) s
            = .next (s.setPort p
                { s.port p with
                  frame := none, reply := reply
                  lastRefusal := some
                    { code := .frameLength, command := 0x03, count := min 255 (bytes.length + 1) } }))

/-- Each port's ready line is high exactly while a result waits or the copy and the mask share a flag, and low while main
power is lost (R165, R167). -/
def Sys2Proof.Machine.ReadyLineFollowsResultAndFlags : Prop :=
  ∀ (p : PortId) (s : State), s.readyLine p = true ↔
    s.power = .present
      ∧ ((∃ r : Result, (s.port p).phase = .result r)
        ∨ ∃ i : Nat, (s.port p).flags.getLsbD i = true ∧ (s.port p).mask.getLsbD i = true)

/-- The flag mask and the ready line it drives (R164, R165, R167, R183). -/
def Obligations.FlagMaskDrivesTheReadyLine : Prop := FlagMaskStoredAsCarried ∧ ReadyLineFollowsResultAndFlags

/-- READ RESULT at its close, by what its read found: a result taken, nothing changed, or EMPTY_READ raised in the port's
own copy; another length changes nothing but the last refusal (R174). -/
def Sys2Proof.Machine.ReadResultTakesWhatItFound : Prop :=
  ∀ (p : PortId) (count n : Nat) (found : FoundResult) (s : State), s.frameIs p 0x04 (.result found n) →
    exec (.readResult p count) s = .next
      (if count ≠ 5 + n then s.refusedWith p .frameLength 0x04 count
       else match found with
        | .waiting => s.closedInto p .idle
        | .notReady => s.setPort p { s.port p with frame := none }
        | .empty => s.setPort p
            { s.port p with frame := none, flags := (s.port p).flags ||| BitVec.twoPow 38 37 })

/-- The closes of READ PORT STATUS and READ RESULT (R174, R175). -/
def Obligations.StatusAndResultClose : Prop := PortStatusCloseClearsTheRefusal ∧ ReadResultTakesWhatItFound

/-- CANCEL's read on the Unit Port with a MOVE ALL in flight holds the walk: no slot step of it waits, and the reply's
mark is 01h (R176). That the mark is 01h also for a walk that an earlier CANCEL is stopping is the model's reading
(log 12). -/
def Sys2Proof.Machine.CancelHoldsTheWalkAtItsRead : Prop :=
  ∀ (s : State) (m : MoveAllRecord), s.power = .present → s.unitPort.frame = none → s.moveAll = some m →
    ∃ m' : MoveAllRecord,
      exec (.frameRead .unit 0x05) s = .next
          { s with
            moveAll := some m'
            unitPort := { s.unitPort with frame := some { code := 0x05, capture := .cancel true }, reply := [0x00, 0x01] } }
        ∧ m' = { m with hold := m'.hold } ∧ (m.hold = .free → m'.hold = .held) ∧ (m.hold ≠ .free → m'.hold = m.hold)
        ∧ ∀ t : State, t.moveAll = some m' → t.unitPort.phase = .waiting .moveAll → t.stepWaiting .unitPort = false

/-- A frame's read, whatever its code and the port's state (R169, R174 to R176). -/
def Obligations.FrameReadsOpenFrames : Prop := FrameReadCapturesTheReply ∧ CancelHoldsTheWalkAtItsRead

/-- CANCEL's close: the walk ends with CANCELLED and the count moved, at once or as the slot step in progress ends; a
refused close releases the hold, or places a held result; with the mark clear nothing changes (R125, R176). That a refused
close of a second CANCEL leaves the walk stopping is the model's reading (log 12). -/
def Obligations.CancelCloseEndsOrReleasesTheWalk : Prop :=
  ∀ (p : PortId) (count : Nat) (mark : Bool) (s : State), s.frameIs p 0x05 (.cancel mark) →
    (mark = false → exec (.cancel p count) s = .next
        (if count = 3 then s.setPort p { s.port p with frame := none } else s.refusedWith p .frameLength 0x05 count))
      ∧ (mark = true → s.moveAll = none → exec (.cancel p count) s = .next
          (if count = 3 then s.setPort p { s.port p with frame := none } else s.refusedWith p .frameLength 0x05 count))
      ∧ ∀ m : MoveAllRecord, mark = true → s.moveAll = some m →
        (count = 3 → (∀ st : StepInProgress, s.engine = some st →
              st.discarded = true ∨ ∀ (a b : Byte) (i : SlotNo), st.work ≠ .moveAllSlot a b i) →
            exec (.cancel p count) s = .next
            (State.setPhase { s.setPort p { s.port p with frame := none } with moveAll := none } .unit
              (.result (resultOf .cancelled 0x19 [BitVec.ofNat 8 m.count]))))
        ∧ (∀ st : StepInProgress, count = 3 → s.engine = some st → st.discarded = false →
            (∃ (a b : Byte) (i : SlotNo), st.work = .moveAllSlot a b i) → exec (.cancel p count) s = .next
              { s.setPort p { s.port p with frame := none } with moveAll := some { m with hold := .stopping } })
        ∧ (count ≠ 3 → exec (.cancel p count) s = .next
            (let u := s.refusedWith p .frameLength 0x05 count
             match m.hold with
             | .held => { u with moveAll := some { m with hold := .free } }
             | .ended r => State.setPhase { u with moveAll := none } .unit (.result r)
             | .free => u
             | .stopping => u))

/-- PORT RESET by the state of its port: the port is IDLE with no last refusal; a waiting command is dropped, a step in
progress completes with its result discarded, a MOVE ALL stops; the walk is cleared, at once or with the port's walk
step in progress (R17, R126, R177). -/
def Obligations.PortResetEndsThePortsWork : Prop :=
  ∀ (p : PortId) (s : State), s.frameOpen p 0x06 → PortsRight s →
    ∃ t : State, exec (.portReset p 2) s = .next t
      ∧ (t.port p).phase = .idle ∧ (t.port p).lastRefusal = none ∧ (t.port p).frame = none
      ∧ (t.port p).flags = (s.port p).flags ∧ (t.port p).mask = (s.port p).mask
      ∧ ((∀ cmd : PortCommand, (s.port p).phase ≠ .working cmd) → t.engine = s.engine)
      ∧ (∀ cmd : PortCommand, (s.port p).phase = .working cmd → ∃ st : StepInProgress,
          s.engine = some st ∧ t.engine = some { st with discarded := true })
      ∧ t.moveAll = (if (s.port p).phase.inFlight = some .moveAll then none else s.moveAll)
      ∧ (∀ st : StepInProgress, s.engine = some st →
          ((∃ f : Option WalkFilter, st.work = .port p (.walk f)) ∨ st.work = .port p .walkNext) →
          (t.port p).cursor = (s.port p).cursor ∧ (t.port p).filter = (s.port p).filter)
      ∧ ((∀ st : StepInProgress, s.engine = some st →
          (∀ f : Option WalkFilter, st.work ≠ .port p (.walk f)) ∧ st.work ≠ .port p .walkNext) →
          (t.port p).cursor = 0 ∧ (t.port p).filter = none)
      ∧ (∀ q : PortId, q ≠ p → t.port q = s.port q)
      ∧ t.slots = s.slots ∧ t.useCount = s.useCount ∧ t.occupancy = s.occupancy ∧ t.offers = s.offers
      ∧ t.classes = s.classes ∧ t.comps = s.comps ∧ t.clock = s.clock ∧ t.exposure = s.exposure

/-- A PORT RESET whose frame is not 2 bytes is refused and resets nothing (R169, R177). -/
def Sys2Proof.Machine.PortResetOfAnotherLengthIsRefused : Prop :=
  ∀ (p : PortId) (count : Nat) (s : State), s.frameOpen p 0x06 → count ≠ 2 →
    exec (.portReset p count) s = .next (s.refusedWith p .frameLength 0x06 count)

/-- Port-level refusals: unlisted codes, queued commands and PORT RESET (R169, R170). -/
def Obligations.RefusedFramesAreOnlyRecorded : Prop :=
  UnlistedCodeIsRecordedAsUnknown ∧ QueuedFrameRefusedInOrder ∧ PortResetOfAnotherLengthIsRefused

/-- A port's frames are its own: no read and no close of a frame changes the other port. -/
def Obligations.FramesLeaveTheOtherPort : Prop :=
  ∀ (c : Instr) (p q : PortId) (s t : State), framePort c = some p → q ≠ p → PortsRight s → exec c s = .next t →
    t.port q = s.port q

/-! ## Queued commands at their close (section 12.6, R172, R179) -/

/-- A queued command handled by a table step is accepted to wait for its step, with its parameters read at their offsets;
nothing else but its frame and its port's phase changes (R172, R179). -/
def Sys2Proof.Machine.StepCommandsWaitWhenAccepted : Prop :=
  ∀ (c : Instr) (f : QueuedFrame) (cmd : PortCommand) (s : State), queuedFrame c = some f → waitsAs c = some cmd →
    s.accepts f → exec c s = .next (s.closedInto f.port (.waiting cmd))

/-- The fields of a frame as R179 reads them, whatever their ignored bits; the numbers, the settings and the verdict flags
as sections 12.7 and 12.8 lay them out. That the marks byte of the settings is sent with its other bits 0 is the model's
reading (log 21). -/
def Obligations.FrameFieldsReadByTheirBits : Prop :=
  (∀ b : Byte, (classField b).val = b.toNat % 8)
    ∧ (∀ (b : Byte) (c : CompNo), compField b = some c ↔ b.toNat = c.val + 1)
    ∧ (∀ b : Byte, (verdictField b).rank = b.toNat % 4)
    ∧ (∀ bytes : List Byte,
        (settingsField bytes).active = (byteAt 1 bytes).getLsbD 0 ∧ (settingsField bytes).simulant = (byteAt 1 bytes).getLsbD 1
          ∧ (settingsField bytes).air = (byteAt 1 bytes).getLsbD 2)
    ∧ (∀ (comp : Option CompNo) (bytes : List Byte),
        (filterField comp bytes).aboard = (byteAt 1 bytes).getLsbD 0
          ∧ (filterField comp bytes).offered = (byteAt 1 bytes).getLsbD 1
          ∧ (filterField comp bytes).closed = (byteAt 1 bytes).getLsbD 2)
    ∧ (∀ a b : Byte, beNat [a, b] = 256 * a.toNat + b.toNat)
    ∧ (∀ (bs : List Byte) (b : Byte), beNat (bs ++ [b]) = 256 * beNat bs + b.toNat)
    ∧ (∀ (k n : Nat), n < 256 ^ k → (beBytes k n).length = k ∧ beNat (beBytes k n) = n)
    ∧ (∀ t : Int, -32768 ≤ t → t ≤ 32767 → intAt 0 (intBytes t) = t)
    ∧ (∀ v : Settings, SettingsRight v →
        let b := v.bytes
        b.length = 10 ∧ (byteAt 0 b).getLsbD 0 = v.active ∧ (byteAt 0 b).getLsbD 1 = v.simulant
          ∧ (byteAt 0 b).getLsbD 2 = v.air ∧ (byteAt 0 b).toNat < 8 ∧ intAt 1 b = v.airOffset
          ∧ (byteAt 3 b).toNat = v.holdLimit ∧ natAt 4 2 b = v.doorLimit ∧ intAt 6 b = v.ceiling
          ∧ (byteAt 8 b).toNat = v.shieldBase ∧ (byteAt 9 b).toNat = v.recoveryLength)
    ∧ (∀ (w : Verdict) (c : CompNo) (i : Nat), (verdictFlag w c).getLsbD i = true ↔
        (w = .watch ∧ i = 8 * c.val + 5) ∨ (w = .unproven ∧ i = 8 * c.val + 6) ∨ (w = .broken ∧ i = 8 * c.val + 7))

/-- MOVE ALL is accepted with its move-all record at slot 0 and count 0, its next slot step waiting (R120). -/
def Sys2Proof.Machine.MoveAllAcceptedAtSlotZero : Prop :=
  ∀ (bytes : List Byte) (s : State), s.accepts ⟨.unit, 0x19, 3, true, false, bytes⟩ →
    exec (.moveAll .unit bytes) s = .next
      { s.closedInto .unit (.waiting .moveAll) with
        moveAll := some { source := byteAt 0 bytes, dest := byteAt 1 bytes, next := 0, count := 0, hold := .free } }

/-- Acceptance of the commands handled by table steps (R172). -/
def Obligations.AcceptedCommandsWaitForTheirSteps : Prop := StepCommandsWaitWhenAccepted ∧ MoveAllAcceptedAtSlotZero

/-- Commands answered at acceptance because they name no compartment: SET COMPARTMENT (R49, R172) and READ COMPARTMENT
(R51) outside 1 to 4. WALK outside "any" and 1 to 4 is accepted to WAITING like every WALK, and refused in its walk step
(R16, R172), as WalkNamingNoCompartmentIsRefused says. -/
def Obligations.UnknownCompartmentRefusedAtAcceptance : Prop :=
  ∀ (p : PortId) (bytes : List Byte) (s : State),
    (4 < (byteAt 0 bytes).toNat → s.accepts ⟨p, 0x15, 4, true, true, bytes⟩ →
        exec (.walk p bytes) s = .next (s.closedInto p (.waiting (.walk none))))
      ∧ ((byteAt 0 bytes).toNat ∉ [1, 2, 3, 4] → s.accepts ⟨.unit, 0x38, 12, true, false, bytes⟩ →
          exec (.setCompartment .unit bytes) s
            = .next (s.closedInto .unit (.result (resultOf .badCompartment 0x38 []))))
      ∧ ((byteAt 0 bytes).toNat ∉ [1, 2, 3, 4] → s.accepts ⟨p, 0x39, 2, true, true, bytes⟩ →
          exec (.readCompartment p bytes) s = .next (s.closedInto p (.result (resultOf .badCompartment 0x39 []))))

/-- SET OFFER TIMEOUT stores the carried value clamped to 10..3,600 and echoes it, ADJUSTED when it changed (R130). -/
def Sys2Proof.Machine.OfferTimeoutStoredClamped : Prop :=
  ∀ (bytes : List Byte) (v : Nat) (s : State), s.accepts ⟨.unit, 0x28, 3, true, false, bytes⟩ → beNat bytes = v →
    let stored := if v < 10 then 10 else if 3600 < v then 3600 else v
    exec (.setOfferTimeout .unit bytes) s = .next
      { s.closedInto .unit (.result (resultOf (if stored = v then .ok else .adjusted) 0x28 (beBytes 2 stored))) with
        offerTimeout := stored }

/-- SET SCAN PERIOD stores the carried period clamped to 1..50 and echoes it, ADJUSTED when it changed; the period in
force, the next tick and the scan in flight stay (R59). -/
def Sys2Proof.Machine.ScanPeriodStoredClamped : Prop :=
  ∀ (b : Byte) (s : State), s.accepts ⟨.unit, 0x40, 2, true, false, [b]⟩ →
    let stored := if b.toNat = 0 then 1 else if 50 < b.toNat then 50 else b.toNat
    exec (.setScanPeriod .unit [b]) s = .next
      { s.closedInto .unit (.result (resultOf (if stored = b.toNat then .ok else .adjusted) 0x40 [BitVec.ofNat 8 stored]))
        with scanner := { s.scanner with period := stored } }

/-- The two settings stored at acceptance (R59, R130). -/
def Obligations.SettingsStoredClamped : Prop := OfferTimeoutStoredClamped ∧ ScanPeriodStoredClamped

/-- The four reading commands answer at acceptance and change nothing but their port's frame and phase: READ CLASS (R33),
READ COMPARTMENT (R51), READ SCAN (R68; seconds to a tick that stands reached: log 14) and READ CLOCK (R148), each with
the bytes of R180. -/
def Obligations.ReadingCommandsAnswerAtOnce : Prop :=
  ∀ (p : PortId) (s : State),
    (∀ bytes : List Byte, s.accepts ⟨p, 0x31, 2, true, true, bytes⟩ →
        let k := classField (byteAt 0 bytes)
        exec (.readClass p bytes) s = .next (s.closedInto p (.result (resultOf .ok 0x31
          (match s.classes[k] with
           | some v => [(1 : Byte)] ++ intBytes v.upper ++ intBytes v.hard
              ++ (match v.low with
                | some l => intBytes l.lower ++ intBytes l.floor
                | none => intBytes (-32768) ++ intBytes (-32768))
              ++ beBytes 4 v.warmBudget ++ beBytes 4 v.coldBudget ++ [BitVec.ofNat 8 v.watchPercent]
              ++ beBytes 4 v.tolerance ++ [BitVec.ofNat 8 s.useCount[k]]
           | none => [(0 : Byte)] ++ intBytes (-32768) ++ intBytes (-32768) ++ intBytes (-32768) ++ intBytes (-32768)
              ++ List.replicate 13 0 ++ [BitVec.ofNat 8 s.useCount[k]])))))
      ∧ (∀ (bytes : List Byte) (c : CompNo), (byteAt 0 bytes).toNat = c.val + 1 →
          s.accepts ⟨p, 0x39, 2, true, true, bytes⟩ →
          let x := s.comps[c]
          exec (.readCompartment p bytes) s = .next (s.closedInto p (.result (resultOf .ok 0x39
            ([BitVec.ofNat 8 (c.val + 1)] ++ x.settings.bytes
              ++ [x.defrost.byte, BitVec.ofNat 8 x.shieldLeft, BitVec.ofNat 8 x.recoveryLeft,
                  if x.doorOpen = true then 1 else 0]
              ++ beBytes 2 x.openings.toNat
              ++ beBytes 2 (match x.doorDeadline with
                | some d => if (s.clock - d).toNat < 2147483648 then 0 else (d - s.clock).toNat
                | none => 0)
              ++ intBytes (x.lastGood.getD (-32768)) ++ [BitVec.ofNat 8 x.held, BitVec.ofNat 8 s.occupancy[c]]
              ++ (match x.snapshot with
                | some n => [n.reading.source.byte] ++ intBytes (n.reading.temp.getD (-32768)) ++ beBytes 2 n.span
                    ++ [(if n.doorOpen = true then (1 : Byte) else 0) + (if n.shielded = true then 2 else 0)]
                    ++ beBytes 4 n.takenAt.toNat
                | none => [3] ++ intBytes (-32768) ++ [0, 0, 0, 0, 0, 0, 0])
              ++ intBytes x.ceilingInForce)))))
      ∧ (s.accepts ⟨.unit, 0x41, 1, true, false, []⟩ →
          exec (.readScan .unit []) s = .next (s.closedInto .unit (.result (resultOf .ok 0x41
            ([BitVec.ofNat 8 s.scanner.period, BitVec.ofNat 8 s.scanner.periodInForce]
              ++ beBytes 2 (match s.scanner.nextTick with
                | some t => if (s.clock - t).toNat < 2147483648 then 0 else (t - s.clock).toNat
                | none => 0)
              ++ [s.scanner.phase.byte] ++ beBytes 2 s.scanner.lag ++ [s.scanner.tag]
              ++ beBytes 4 s.lastSnapshotTime.toNat ++ beBytes 2 (s.scanner.span.getD 0)
              ++ (List.finRange 8).flatMap (fun n : ProbeNo =>
                [s.probes[n].status.byte] ++ intBytes (s.probes[n].reading.getD (-32768))))))))
      ∧ (s.accepts ⟨p, 0x48, 1, true, true, []⟩ →
          exec (.readClock p []) s = .next (s.closedInto p (.result (resultOf .ok 0x48
            (beBytes 4 s.clock.toNat ++ beBytes 2 s.unitId.toNat
              ++ (match s.lastStart with
                | .blank => [0x00]
                | .resume => [0x01]))))))

/-- SET COMPARTMENT with mode ACTIVE stores the clamped settings at acceptance, serves the probes by them, and echoes them
(R49, R54). A compartment that was OFF becomes ACTIVE: its door line is sampled, its state is fresh and it forms an
opening snapshot (R38). One that was ACTIVE keeps its state, with its counters brought within the new bounds (R48). That a
probe entering or leaving service has its answered mark cleared too is the model's choice (log 36), as is the field that
tells its service since the scan's start (log 26). -/
def Obligations.SetCompartmentActiveStoresAtOnce : Prop :=
  ∀ (bytes : List Byte) (c : CompNo) (s : State), s.accepts ⟨.unit, 0x38, 12, true, false, bytes⟩ →
    (byteAt 0 bytes).toNat = c.val + 1 → (byteAt 1 bytes).getLsbD 0 = true →
    let raw := settingsField bytes
    let clampTo (lo hi v : Int) : Int := if v < lo then lo else if hi < v then hi else v
    let v : Settings :=
      { raw with
        airOffset := clampTo (-50) 50 raw.airOffset
        holdLimit := if 15 < raw.holdLimit then 15 else raw.holdLimit
        doorLimit := if raw.doorLimit < 10 then 10 else if 3600 < raw.doorLimit then 3600 else raw.doorLimit
        ceiling := clampTo (-400) 500 raw.ceiling }
    let x := s.comps[c]
    ∃ (y : Compartment) (probes : Vector Probe 8),
      exec (.setCompartment .unit bytes) s = .next
          { s.closedInto .unit (.result (resultOf (if v = raw then .ok else .adjusted) 0x38
              ([BitVec.ofNat 8 (c.val + 1)] ++ v.bytes))) with comps := put s.comps c y, probes := probes }
        ∧ (x.settings.active = false → y =
            { settings := v, defrost := .normal, shieldLeft := 0, recoveryLeft := 0, doorOpen := s.doorLines[c]
              openings := if s.doorLines[c] = true then x.openings + 1 else x.openings
              doorDeadline := if s.doorLines[c] = true then some (s.clock + BitVec.ofNat 32 v.doorLimit) else none
              lastGood := none, held := 0, keptSource := none
              snapshot := some { reading := .blind, span := s.scanner.period, doorOpen := s.doorLines[c],
                                 shielded := false, takenAt := s.clock }
              ceilingInForce := v.ceiling })
        ∧ (x.settings.active = true → y =
            (if x.defrost = .recovery ∧ (x.recoveryLeft = 0 ∨ v.recoveryLength = 0) then
              { x with settings := v, defrost := .normal, shieldLeft := 0, recoveryLeft := 0 }
             else { x with settings := v, shieldLeft := min x.shieldLeft v.shieldBase,
                           recoveryLeft := min x.recoveryLeft v.recoveryLength }))
        ∧ ∀ n : ProbeNo,
            let before := servedBy x.settings n
            let now := servedBy v n
            probes[n] = (if n.val / 2 ≠ c.val ∨ before = now then s.probes[n]
              else if now = true then { status := .unread, reading := none, answered := false, steady := false }
              else { status := .absent, reading := none, answered := false, steady := false })

/-- DEFROST START (R44): BAD_COMPARTMENT unless it names an ACTIVE compartment; else the table of R44 by the defrost state,
answered OK, and nothing else changes. -/
def Sys2Proof.Machine.DefrostStartByItsTable : Prop :=
  ∀ (b : Byte) (s : State), s.accepts ⟨.unit, 0x3A, 2, true, false, [b]⟩ →
    ((∀ c : CompNo, b.toNat = c.val + 1 → s.comps[c].settings.active = false) →
        exec (.defrostStart .unit [b]) s = .next (s.closedInto .unit (.result (resultOf .badCompartment 0x3A []))))
      ∧ ∀ c : CompNo, b.toNat = c.val + 1 → s.comps[c].settings.active = true →
        exec (.defrostStart .unit [b]) s = .next
          { s.closedInto .unit (.result (resultOf .ok 0x3A [])) with
            comps := put s.comps c
              (match s.comps[c].defrost with
               | .normal => { s.comps[c] with
                   defrost := .defrost, shieldLeft := s.comps[c].settings.shieldBase, recoveryLeft := 0 }
               | .defrost => { s.comps[c] with recoveryLeft := 0 }
               | .recovery => { s.comps[c] with
                   defrost := .defrost, shieldLeft := s.comps[c].settings.shieldBase, recoveryLeft := 0 }) }

/-- DEFROST END (R45): the same for the table of R45. -/
def Sys2Proof.Machine.DefrostEndByItsTable : Prop :=
  ∀ (b : Byte) (s : State), s.accepts ⟨.unit, 0x3B, 2, true, false, [b]⟩ →
    ((∀ c : CompNo, b.toNat = c.val + 1 → s.comps[c].settings.active = false) →
        exec (.defrostEnd .unit [b]) s = .next (s.closedInto .unit (.result (resultOf .badCompartment 0x3B []))))
      ∧ ∀ c : CompNo, b.toNat = c.val + 1 → s.comps[c].settings.active = true →
        exec (.defrostEnd .unit [b]) s = .next
          { s.closedInto .unit (.result (resultOf .ok 0x3B [])) with
            comps := put s.comps c
              (match s.comps[c].defrost with
               | .normal => s.comps[c]
               | .defrost =>
                 if 0 < s.comps[c].settings.recoveryLength then
                   { s.comps[c] with defrost := .recovery, recoveryLeft := s.comps[c].settings.recoveryLength }
                 else { s.comps[c] with defrost := .normal, shieldLeft := 0, recoveryLeft := 0 }
               | .recovery => s.comps[c]) }

/-- The two defrost commands (R44, R45). -/
def Obligations.DefrostCommandsByTheirTables : Prop := DefrostStartByItsTable ∧ DefrostEndByItsTable

/-! ## The route clock (sections 10.1 and 10.6) -/

/-- A route second: the clock rises by one, wrapping, with main power or without it, and nothing else changes (R146). -/
def Sys2Proof.Machine.RouteSecondRaisesTheClock : Prop :=
  ∀ s : State, exec .routeClockSecond s = .next { s with clock := s.clock + 1 }

/-- SET CLOCK: with no table step in progress its event is taken at acceptance, and otherwise it waits and is taken once
the engine is free, as SET_CLOCK_EVENT (log 9). The event sets the clock, shifts every held time that is present by the
same amount, and answers with the old clock and v (R149, R150); nothing else changes. -/
def Sys2Proof.Machine.SetClockShiftsEveryHeldTime : Prop :=
  ∀ (bytes : List Byte) (v : RouteTime) (s : State), bytes.length = 4 → v = BitVec.ofNat 32 (beNat bytes) →
    let d := v - s.clock
    let shifted (slots : Vector (Option Record) 128) (frame : Option OpenFrame) : State :=
      { s with
        clock := v, slots := slots, lastSnapshotTime := s.lastSnapshotTime + d
        offers := s.offers.map (fun o => { o with deadline := o.deadline + d })
        comps := s.comps.map (fun x => { x with doorDeadline := x.doorDeadline.map (fun t => t + d) })
        scanner := { s.scanner with nextTick := s.scanner.nextTick.map (fun t => t + d) }
        exposure := { s.exposure with gapEnd := s.exposure.gapEnd.map (fun t => t + d) }
        unitPort :=
          { s.unitPort with
            frame := frame, phase := .result (resultOf .ok 0x49 (beBytes 4 s.clock.toNat ++ beBytes 4 v.toNat)) } }
    (s.accepts ⟨.unit, 0x49, 5, true, false, bytes⟩ → s.engine ≠ none →
        exec (.setClock .unit bytes) s = .next (s.closedInto .unit (.waiting (.setClock v))))
      ∧ ∃ slots : Vector (Option Record) 128,
        (s.accepts ⟨.unit, 0x49, 5, true, false, bytes⟩ → s.engine = none →
            exec (.setClock .unit bytes) s = .next (shifted slots none))
          ∧ (s.power = .present → s.unitPort.phase = .waiting (.setClock v) → s.engine = none →
            exec .setClockEvent s = .next (shifted slots s.unitPort.frame))
          ∧ (∀ (i : SlotNo) (r : Record) (l : LiveFields) (t : RouteTime), s.slots[i] = some r →
              r.custody = .offered l t → (∃ o ∈ s.offers, o.slot = i) →
              slots[i] = some { r with custody := .offered l (t + d) })
          ∧ (∀ i : SlotNo, (¬∃ o ∈ s.offers, o.slot = i) → slots[i] = s.slots[i])
          ∧ (∀ i : SlotNo, (∀ (r : Record) (l : LiveFields) (t : RouteTime), s.slots[i] = some r →
              r.custody ≠ .offered l t) → slots[i] = s.slots[i])

/-- No held time becomes reached and none stops being reached by SET CLOCK; the seconds remaining to each are kept, and
so is the order of any two offer deadlines (R147, R149, R128). -/
def Sys2Proof.Machine.SetClockKeepsRemainingTimes : Prop :=
  ∀ (now v t u : RouteTime),
    reached v (t + (v - now)) = reached now t ∧ secondsTo v (t + (v - now)) = secondsTo now t
      ∧ notLater (t + (v - now)) (u + (v - now)) = notLater t u

/-- The route clock and SET CLOCK (R146, R147, R149, R150). -/
def Obligations.ClockMovesHeldTimesTogether : Prop :=
  RouteSecondRaisesTheClock ∧ SetClockShiftsEveryHeldTime ∧ SetClockKeepsRemainingTimes

/-! ## The table engine and its arbiter (section 1.5) -/

/-- A grant goes to the requester highest in the order among those waiting; it falls to the lowest place, the step begins
on what it reads then, and a port's command enters WORKING (R10, R12, R173). -/
def Sys2Proof.Machine.GrantGoesToTheHighestWaiting : Prop :=
  ∀ (r : Requester) (s : State), s.power = .present → s.engine = none →
    (∀ v : RouteTime, s.unitPort.phase ≠ .waiting (.setClock v)) → s.order.find? s.stepWaiting = some r →
    let begun (w : StepWork) : State :=
      { s with
        order := s.order.erase r ++ [r]
        engine := some
          { work := w, discarded := false
            inputs := { now := s.clock, comps := s.comps, tag := s.scanner.tag, period := s.scanner.period,
                        offerTimeout := s.offerTimeout } } }
    (∀ (p : PortId) (cmd : PortCommand) (row : StepPhase → Instr), r = requesterOf p →
        (s.port p).phase = .waiting cmd → stepRow p cmd = some row →
        exec (row .begins) s = .next ((begun (.port p cmd)).setPhase p (.working cmd)))
      ∧ (∀ m : MoveAllRecord, r = .unitPort → s.unitPort.phase = .waiting .moveAll → s.moveAll = some m →
          exec (.moveAllSlot .begins) s
            = .next ((begun (.moveAllSlot m.source m.dest m.next)).setPhase .unit (.working .moveAll)))
      ∧ (r = .accrual → exec (.accrualVisit .begins) s = .next (begun .accrual))
      ∧ (r = .lapse → exec (.lapseStep .begins) s = .next (begun .lapse))
      ∧ (r = .gap → exec (.gapVisit .begins) s = .next (begun .gap))

/-- Nothing is granted out of turn: without main power, with a step in progress, with a SET CLOCK waiting for its event,
or to a requester that is not the highest waiting, no step begins (R10, R12, R21, R150). -/
def Sys2Proof.Machine.NothingGrantedOutOfTurn : Prop :=
  ∀ (c : Instr) (r : Requester) (s : State), grantTo c = some r →
    (s.power = .lost ∨ s.engine ≠ none ∨ (∃ v : RouteTime, s.unitPort.phase = .waiting (.setClock v))
      ∨ s.order.find? s.stepWaiting ≠ some r) →
    exec c s = .next s

/-- The arbiter's grants (R10, R12). -/
def Obligations.ArbiterGrantsTheHighestWaiting : Prop := GrantGoesToTheHighestWaiting ∧ NothingGrantedOutOfTurn

/-- A grant row that begins a step: a requester that waits at the highest place is the one granted, and any other that waits
moves exactly one place up (R12, R13). -/
def Sys2Proof.Machine.GrantMovesTheWaitingUp : Prop :=
  ∀ (c : Instr) (q r : Requester) (s t : State), OrderRight s → grantTo c = some q → s.engine = none →
    exec c s = .next t → t.engine ≠ none → s.stepWaiting r = true →
    OrderRight t ∧ s.order.idxOf r ≤ 4 ∧ (s.order.idxOf r = 0 → q = r)
      ∧ (q ≠ r → t.order.idxOf r + 1 = s.order.idxOf r)

/-- Only a grant that begins a step, and the two power rows, move the order (R12). -/
def Sys2Proof.Machine.OrderMovesOnlyAtAGrant : Prop :=
  ∀ (c : Instr) (s t : State), powerRow c = false → exec c s = .next t →
    t.order = s.order ∨ ((grantTo c).isSome = true ∧ s.engine = none ∧ t.engine ≠ none)

/-- Whatever commands come, at most four steps of others begin while a requester waits (R13). -/
def Sys2Proof.Machine.AtMostFourGrantsAhead : Prop :=
  ∀ (r : Requester) (cs : List Instr) (s : State), OrderRight s → grantsAhead r cs s ≤ 4

/-- A waiting requester is granted within at most four other steps (R12, R13). -/
def Obligations.WaitingRequesterGrantedWithinFour : Prop :=
  GrantMovesTheWaitingUp ∧ OrderMovesOnlyAtAGrant ∧ AtMostFourGrantsAhead

/-- A command naming an ID that no non-FREE slot holds is answered NOT_FOUND, whatever else would refuse it, and nothing
but the end of its step happens (R5). -/
def Sys2Proof.Machine.UnheldIdIsNotFound : Prop :=
  ∀ (p : PortId) (cmd : PortCommand) (id : ConsignmentId) (row : StepPhase → Instr) (inp : StepInputs) (s : State),
    stepRow p cmd = some row → namedId cmd = some id → s.stepIs p cmd inp → s.idFree id →
    exec (row .ends) s = .next (s.stepEnds p (resultOf .notFound cmd.code []))

/-- A command that finds its record in a state other than the one it asks for is answered WRONG_STATE and leaves it as it
was (R3, R4). -/
def Sys2Proof.Machine.WrongStateIsRefused : Prop :=
  ∀ (p : PortId) (cmd : PortCommand) (id : ConsignmentId) (row : StepPhase → Instr) (inp : StepInputs) (i : SlotNo)
    (r : Record) (s : State),
    stepRow p cmd = some row → namedId cmd = some id → s.stepIs p cmd inp → IdsRight s → s.idAt id i r →
    stateFits cmd r.custody = false → exec (row .ends) s = .next (s.stepEnds p (resultOf .wrongState cmd.code []))

/-- What a command that names an ID answers when no record, or one in another state, holds it (R3, R5). -/
def Obligations.IdCommandsRefusedByTheirRecord : Prop := UnheldIdIsNotFound ∧ WrongStateIsRefused

/-- A step whose port was reset while it was in progress makes the same changes to the table, the counts, the queue, the
classes, the compartments and the identity, and places no result; a walk step's own port has its walk cleared (R11, R17,
R177). -/
def Obligations.DiscardedStepPlacesNoResult : Prop :=
  ∀ (p : PortId) (cmd : PortCommand) (row : StepPhase → Instr) (inp : StepInputs) (s t : State),
    stepRow p cmd = some row → s.stepIs p cmd inp → exec (row .ends) s = .next t →
    ∃ u : State,
      exec (row .ends) { s with engine := some { work := .port p cmd, inputs := inp, discarded := true } } = .next u
        ∧ u.slots = t.slots ∧ u.useCount = t.useCount ∧ u.occupancy = t.occupancy ∧ u.offers = t.offers
        ∧ u.classes = t.classes ∧ u.comps = t.comps ∧ u.unitId = t.unitId ∧ u.exposure = t.exposure
        ∧ u.engine = none ∧ (u.port p).phase = (s.port p).phase ∧ (u.port p).flags = (t.port p).flags
        ∧ (((∃ f : Option WalkFilter, cmd = .walk f) ∨ cmd = .walkNext) → (u.port p).cursor = 0 ∧ (u.port p).filter = none)
        ∧ ∀ q : PortId, q ≠ p → u.port q = t.port q

/-! ## Reading the table (sections 1.6 to 1.8) -/

/-- FIND answers the summary of the record that holds the ID, built at the step, and changes nothing else (R14). -/
def Sys2Proof.Machine.FindAnswersTheSummary : Prop :=
  ∀ (p : PortId) (id : ConsignmentId) (inp : StepInputs) (i : SlotNo) (r : Record) (s : State),
    s.stepIs p (.find id) inp → IdsRight s → s.idAt id i r →
    exec (.findStep p .ends) s = .next (s.stepEnds p (resultOf .ok 0x14 (summaryBytes inp.now i r)))

/-- The 32 bytes of a record summary hold the record's figures at the offsets of section 12.8 (R15, R181). -/
def Obligations.SummaryHoldsTheRecord : Prop :=
  ∀ (now : RouteTime) (i : SlotNo) (r : Record), FiguresRight r →
    let b := summaryBytes now i r
    b.length = 32 ∧ (byteAt 0 b).toNat = i.val
      ∧ (byteAt 1 b).toNat = (match r.custody with
          | .aboard _ => 1
          | .offered _ _ => 2
          | .closed _ => 3)
      ∧ (byteAt 2 b).toNat = r.cls.val ∧ (byteAt 3 b).toNat = r.comp.val + 1 ∧ byteAt 4 b = r.verdict.byte
      ∧ byteAt 5 b = r.cause.byte ∧ BitVec.ofNat 96 (natAt 6 12 b) = r.id ∧ natAt 18 4 b = r.warm
      ∧ natAt 22 4 b = r.cold ∧ natAt 26 4 b = r.blind
      ∧ (∀ (l : LiveFields) (d : RouteTime), r.custody = .offered l d →
          (now - d).toNat < 2147483648 ∨ (d - now).toNat ≤ 3600 →
          natAt 30 2 b = if (now - d).toNat < 2147483648 then 0 else (d - now).toNat)
      ∧ ((∀ (l : LiveFields) (d : RouteTime), r.custody ≠ .offered l d) → natAt 30 2 b = 0)

/-- WALK stores its filter and reports the first slot from 0 whose record matches, with the cursor past it; with no match
it answers END_OF_WALK with the cursor 0. WALK NEXT does the same from its port's cursor with the stored filter, and is
refused with NO_WALK when none is stored. Nothing else changes (R16, R18, R19). -/
def Sys2Proof.Machine.WalkReportsTheFirstMatch : Prop :=
  ∀ (p : PortId) (cmd : PortCommand) (f : WalkFilter) (code : Byte) (start : Nat) (inp : StepInputs) (s : State),
    s.stepIs p cmd inp →
    ((cmd = .walk (some f) ∧ code = 0x15 ∧ start = 0)
      ∨ (cmd = .walkNext ∧ code = 0x16 ∧ (s.port p).filter = some f ∧ start = (s.port p).cursor)) →
    (∀ (i : SlotNo) (r : Record), start ≤ i.val → s.slots[i] = some r → Matches f r →
        (∀ (j : SlotNo) (q : Record), start ≤ j.val → j < i → s.slots[j] = some q → ¬Matches f q) →
        exec (.walkStep p .ends) s = .next
          (State.stepEnds (s.setPort p { s.port p with cursor := i.val + 1, filter := some f }) p
            (resultOf .ok code (summaryBytes inp.now i r))))
      ∧ ((∀ (j : SlotNo) (q : Record), start ≤ j.val → s.slots[j] = some q → ¬Matches f q) →
          exec (.walkStep p .ends) s = .next
            (State.stepEnds (s.setPort p { s.port p with cursor := 0, filter := some f }) p
              (resultOf .endOfWalk code [])))

/-- WALK NEXT with no stored filter is refused with NO_WALK, the cursor as it was (R19). -/
def Sys2Proof.Machine.WalkNextWithoutAFilterIsRefused : Prop :=
  ∀ (p : PortId) (inp : StepInputs) (s : State), s.stepIs p .walkNext inp → (s.port p).filter = none →
    exec (.walkStep p .ends) s = .next (s.stepEnds p (resultOf .noWalk 0x16 []))

/-- A WALK whose compartment value is outside "any" and 1 to 4 is refused with BAD_COMPARTMENT in its walk step, the stored
filter and the cursor as they were (R16). -/
def Sys2Proof.Machine.WalkNamingNoCompartmentIsRefused : Prop :=
  ∀ (p : PortId) (inp : StepInputs) (s : State), s.stepIs p (.walk none) inp →
    exec (.walkStep p .ends) s = .next (s.stepEnds p (resultOf .badCompartment 0x15 []))

/-- FIND, WALK and WALK NEXT in their steps (R14, R16, R18, R19). -/
def Obligations.FindAndWalkReportRecords : Prop :=
  FindAnswersTheSummary ∧ WalkReportsTheFirstMatch ∧ WalkNextWithoutAFilterIsRefused ∧ WalkNamingNoCompartmentIsRefused

/-! ## Taking consignments aboard (chapter 7) -/

/-- The checks of a fresh ADMIT in their order, each with its refusal; a refusal changes nothing but the end of the step,
and TABLE_FULL alone raises its condition (R104, R7). -/
def Sys2Proof.Machine.AdmitChecksInOrder : Prop :=
  ∀ (p : PortId) (id : ConsignmentId) (cls : ClassNo) (comp : Byte) (inp : StepInputs) (s : State),
    s.stepIs p (.admitFresh id cls comp) inp → AdmissionChecked p (.admitStep p .ends) 0x10 id cls comp inp s

/-- A carried ADMIT whose statement verifies is put to the same checks with the statement's ID (R104, R107). -/
def Sys2Proof.Machine.CarriedAdmitChecksInOrder : Prop :=
  ∀ (p : PortId) (st : List Byte) (cls : ClassNo) (comp : Byte) (inp : StepInputs) (s : State),
    s.stepIs p (.admitCarried st cls comp) inp → verifies st = true →
    AdmissionChecked p (.admitStep p .ends) 0x11 (BitVec.ofNat 96 (natAt 4 12 st)) cls comp inp s

/-- A fresh admission that passes its checks writes the record of R106 into the lowest FREE slot, raises the two counts by
one, and, in a gap pass that has not passed the slot, exempts it; it is answered OK with slot, INTACT and NONE
(R104, R106, R156). -/
def Obligations.FreshAdmissionWritesItsRecord : Prop :=
  ∀ (p : PortId) (id : ConsignmentId) (cls : ClassNo) (comp : Byte) (c : CompNo) (i : SlotNo) (inp : StepInputs)
    (s : State),
    s.stepIs p (.admitFresh id cls comp) inp → id ≠ 0 → namesActive inp comp c → s.classes[cls] ≠ none → s.idFree id →
    s.slots[i] = none → (∀ j : SlotNo, j < i → s.slots[j] ≠ none) →
    exec (.admitStep p .ends) s = .next
      (State.stepEnds
        { s with
          slots := put s.slots i (some
            { id := id, cls := cls, comp := c, admittedAt := inp.now, warm := 0, cold := 0, excursion := 0, blind := 0,
              peakHigh := none, peakLow := none, lapses := 0, verdict := .intact, cause := .nothing,
              carriedCause := none, carriedFrom := none
              custody := .aboard { doorStored := 0, doorBase := inp.comps[c].openings, tag := inp.tag } })
          useCount := put s.useCount cls (s.useCount[cls] + 1)
          occupancy := put s.occupancy c (s.occupancy[c] + 1)
          exposure :=
            if s.exposure.gapEnd.isSome = true ∧ s.exposure.gapCursor ≤ i then
              { s.exposure with gapExempt := put s.exposure.gapExempt i true }
            else s.exposure }
        p (resultOf .ok 0x10 [BitVec.ofNat 8 i.val, 0, 0]))

/-- A presented statement verifies when its format is 1, its provisional flag clear, its closing unit not 0 and its check
word right (R107); one that does not is refused with BAD_STATEMENT before any other check. -/
def Sys2Proof.Machine.UnverifiedStatementIsRefused : Prop :=
  ∀ (p : PortId) (st : List Byte) (cls : ClassNo) (comp : Byte) (inp : StepInputs) (s : State),
    s.stepIs p (.admitCarried st cls comp) inp →
    (verifies st = true ↔ byteAt 0 st = 1 ∧ (byteAt 1 st).getLsbD 0 = false ∧ natAt 16 2 st ≠ 0
        ∧ natAt 74 2 st = 65535 - (wordsOf (st.take 74)).foldl (fun a w => if 65535 < a + w then a + w - 65535 else a + w) 0)
      ∧ (verifies st = false →
          exec (.admitStep p .ends) s = .next (s.stepEnds p (resultOf .badStatement 0x11 [])))

/-- The refusals of ADMIT (R104, R107). -/
def Obligations.AdmissionRefusalsInOrder : Prop :=
  AdmitChecksInOrder ∧ UnverifiedStatementIsRefused ∧ CarriedAdmitChecksInOrder

/-- A carried admission that passes its checks writes the figures of the statement into the lowest FREE slot, saturated
and clamped as R109 gives, with the local fields of R106; its verdict and cause come from the carried and the evaluated
verdict as R98 to R100 state, and a verdict above INTACT raises its flag. -/
def Obligations.CarriedAdmissionTakesTheStatement : Prop :=
  ∀ (p : PortId) (st : List Byte) (cls : ClassNo) (comp : Byte) (c : CompNo) (k : ClassLimits) (i : SlotNo)
    (inp : StepInputs) (s : State),
    s.stepIs p (.admitCarried st cls comp) inp → verifies st = true → BitVec.ofNat 96 (natAt 4 12 st) ≠ 0 →
    namesActive inp comp c → s.classes[cls] = some k → s.idFree (BitVec.ofNat 96 (natAt 4 12 st)) →
    s.slots[i] = none → (∀ j : SlotNo, j < i → s.slots[j] ≠ none) →
    let peak (o : Nat) : Option Int :=
      if intAt o st = -32768 then none
      else some (if intAt o st < -400 then -400 else if 500 < intAt o st then 500 else intAt o st)
    let carried : Verdict := match (byteAt 2 st).toNat with
      | 0 => .intact
      | 1 => .watch
      | 2 => .unproven
      | _ => .broken
    ∃ (r : Record) (e : Verdict),
      exec (.admitStep p .ends) s = .next
          (State.stepEnds
            (State.raise
              { s with
                slots := put s.slots i (some r)
                useCount := put s.useCount cls (s.useCount[cls] + 1)
                occupancy := put s.occupancy c (s.occupancy[c] + 1)
                exposure :=
                  if s.exposure.gapEnd.isSome = true ∧ s.exposure.gapCursor ≤ i then
                    { s.exposure with gapExempt := put s.exposure.gapExempt i true }
                  else s.exposure }
              (verdictFlag r.verdict c))
            p (resultOf .ok 0x11 [BitVec.ofNat 8 i.val, r.verdict.byte, r.cause.byte]))
        ∧ r.id = BitVec.ofNat 96 (natAt 4 12 st) ∧ r.cls = cls ∧ r.comp = c ∧ r.admittedAt = inp.now
        ∧ r.warm = min 16777215 (natAt 42 4 st) ∧ r.cold = min 16777215 (natAt 46 4 st)
        ∧ r.excursion = natAt 50 4 st ∧ r.blind = natAt 54 4 st ∧ r.peakHigh = peak 58 ∧ r.peakLow = peak 60
        ∧ r.lapses = natAt 64 1 st ∧ r.carriedFrom = some (BitVec.ofNat 16 (natAt 16 2 st))
        ∧ r.custody = .aboard
            { doorStored := natAt 62 2 st, doorBase := inp.comps[c].openings, tag := inp.tag }
        ∧ (let reached (x : ReasonCause) : Prop :=
             BlindReached k r.blind x ∨ HardReached k r.peakHigh r.peakLow x ∨ BudgetReached k r.warm r.cold x
           HighestOf .intact reached e
            ∧ (e.rank < carried.rank → r.verdict = carried ∧ r.cause = .carried
                ∧ ∃ x : ReasonCause, r.carriedCause = some x ∧ x.verdict = carried
                  ∧ (x.byte = byteAt 3 st
                    ∨ ((∀ y : ReasonCause, y.byte = byteAt 3 st → y.verdict ≠ carried)
                      ∧ (carried = .watch → x = .watchWarm) ∧ (carried = .unproven → x = .blind)
                      ∧ (carried = .broken → x = .hardHigh))))
            ∧ (carried.rank ≤ e.rank → r.verdict = e ∧ r.carriedCause = none
                ∧ (e = .intact → r.cause = .nothing)
                ∧ (e ≠ .intact → ∃ x : ReasonCause, FirstReached reached e x ∧ r.cause = .reason x)))

/-- DISCARD of an ABOARD record frees its slot and takes one from each of its two counts, all in the step (R111). -/
def Sys2Proof.Machine.DiscardFreesTheSlot : Prop :=
  ∀ (id : ConsignmentId) (inp : StepInputs) (i : SlotNo) (r : Record) (l : LiveFields) (s : State),
    s.stepIs .unit (.discard id) inp → IdsRight s → s.idAt id i r → r.custody = .aboard l →
    exec (.discardStep .ends) s = .next
      (State.stepEnds
        { s with
          slots := put s.slots i none
          useCount := put s.useCount r.cls (s.useCount[r.cls] - 1)
          occupancy := put s.occupancy r.comp (s.occupancy[r.comp] - 1) }
        .unit (resultOf .ok 0x12 [BitVec.ofNat 8 i.val]))

/-! ## Moving consignments (chapter 8) -/

/-- MOVE of an ABOARD record: BAD_COMPARTMENT unless it names an ACTIVE compartment; nothing changes when it names the
record's own; else the record's door exposures are folded, its door base taken from the destination, and the two
occupancies shifted. The figure of R2 is the same after as before (R114, R115, R116). -/
def Obligations.MoveFoldsTheDoorExposures : Prop :=
  ∀ (id : ConsignmentId) (dest : Byte) (inp : StepInputs) (i : SlotNo) (r : Record) (l : LiveFields) (s : State),
    s.stepIs .unit (.move id dest) inp → IdsRight s → s.idAt id i r → r.custody = .aboard l →
    ((∀ c : CompNo, ¬namesActive inp dest c) →
        exec (.moveStep .ends) s = .next (s.stepEnds .unit (resultOf .badCompartment 0x18 [])))
      ∧ ∀ c : CompNo, namesActive inp dest c →
        let answer : Result :=
          resultOf .ok 0x18 ([BitVec.ofNat 8 i.val, BitVec.ofNat 8 (r.comp.val + 1), BitVec.ofNat 8 (c.val + 1)]
            ++ beBytes 2 (doorFigure inp r l))
        let l' : LiveFields := { l with doorStored := doorFigure inp r l, doorBase := inp.comps[c].openings }
        (c = r.comp → exec (.moveStep .ends) s = .next (s.stepEnds .unit answer))
          ∧ (c ≠ r.comp → exec (.moveStep .ends) s = .next
              (State.stepEnds
                { s with
                  slots := put s.slots i (some { r with comp := c, custody := .aboard l' })
                  occupancy := put (put s.occupancy r.comp (s.occupancy[r.comp] - 1)) c (s.occupancy[c] + 1) }
                .unit answer))
          ∧ doorFigure inp { r with comp := c } l' = doorFigure inp r l

/-- MOVE with TRIAL of a live record: BAD_COMPARTMENT unless it names an ACTIVE compartment; else it answers from the
destination's latest snapshot, unshielded, and changes nothing (R118, R119). -/
def Obligations.TrialAnswersAndChangesNothing : Prop :=
  ∀ (id : ConsignmentId) (dest : Byte) (inp : StepInputs) (i : SlotNo) (r : Record) (l : LiveFields) (s : State),
    s.stepIs .unit (.moveTrial id dest) inp → IdsRight s → s.idAt id i r → r.live = some l →
    ((∀ c : CompNo, ¬namesActive inp dest c) →
        exec (.trialMoveStep .ends) s = .next (s.stepEnds .unit (resultOf .badCompartment 0x18 [])))
      ∧ ∀ (c : CompNo) (k : ClassLimits) (n : Snapshot), namesActive inp dest c → s.classes[r.cls] = some k →
        inp.comps[c].snapshot = some n →
        ∃ results : Byte,
          exec (.trialMoveStep .ends) s = .next (s.stepEnds .unit (resultOf .ok 0x18
              ([BitVec.ofNat 8 i.val, BitVec.ofNat 8 (c.val + 1), n.reading.source.byte]
                ++ intBytes (n.reading.temp.getD (-32768)) ++ [results])))
            ∧ (results.getLsbD 0 = true ↔ ∃ t : Int, n.reading.temp = some t ∧ k.upper < t)
            ∧ (results.getLsbD 1 = true ↔ ∃ t : Int, n.reading.temp = some t ∧ k.hard ≤ t)
            ∧ (results.getLsbD 2 = true ↔ ∃ (t : Int) (low : LowLimits),
                n.reading.temp = some t ∧ k.low = some low ∧ t < low.lower)
            ∧ (results.getLsbD 3 = true ↔ ∃ (t : Int) (low : LowLimits),
                n.reading.temp = some t ∧ k.low = some low ∧ t ≤ low.floor)
            ∧ results.toNat < 16

/-- A MOVE ALL slot step whose walk passed its start checks moves the ABOARD record of the source in its slot, as a MOVE
does, counts it, and passes over everything else; at slot 0 with a failed start check it examines nothing
(R121, R122). Whatever the hold, the walk is settled as MoveAllStepSettlesTheWalk says. -/
def Sys2Proof.Machine.MoveAllStepMovesOneRecord : Prop :=
  ∀ (a b : Byte) (ca cb : CompNo) (i : SlotNo) (inp : StepInputs) (s : State),
    s.workIs (.moveAllSlot a b i) inp → a.toNat = ca.val + 1 → namesActive inp b cb →
    ∃ t : State, exec (.moveAllSlot .ends) s = .next t ∧ t.engine = none
      ∧ t.useCount = s.useCount ∧ t.offers = s.offers ∧ t.classes = s.classes ∧ t.comps = s.comps
      ∧ t.exposure = s.exposure ∧ t.dockPort = s.dockPort ∧ t.unitPort.flags = s.unitPort.flags
      ∧ t.unitPort.cursor = s.unitPort.cursor ∧ t.unitPort.filter = s.unitPort.filter
      ∧ (if i.val = 0 ∧ (inp.comps[ca].active = false ∨ ca = cb) then t.slots = s.slots ∧ t.occupancy = s.occupancy
         else
          (∀ (r : Record) (l : LiveFields), s.slots[i] = some r → r.custody = .aboard l → r.comp = ca →
              t.slots = put s.slots i (some
                { r with
                  comp := cb
                  custody := .aboard
                    { l with doorStored := doorFigure inp r l, doorBase := inp.comps[cb].openings } })
              ∧ (ca ≠ cb → t.occupancy
                  = put (put s.occupancy ca (s.occupancy[ca] - 1)) cb (s.occupancy[cb] + 1)))
            ∧ ((∀ (r : Record) (l : LiveFields), s.slots[i] = some r → r.custody = .aboard l → r.comp ≠ ca) →
                t.slots = s.slots ∧ t.occupancy = s.occupancy))

/-- How a MOVE ALL slot step settles its walk (R121, R122, R123, R125, R176): the next slot's step waits, or the walk ends
with BAD_COMPARTMENT, or, at slot 127, with OK and its count; under a CANCEL's hold an ending is held, and after a
CANCEL's close it is CANCELLED. That the port shows WAITING while the ending is held is the model's reading (log 12), and
that the record then keeps its next slot is its choice (log 35). -/
def Sys2Proof.Machine.MoveAllStepSettlesTheWalk : Prop :=
  ∀ (a b : Byte) (i : SlotNo) (inp : StepInputs) (m : MoveAllRecord) (s : State),
    s.workIs (.moveAllSlot a b i) inp → s.moveAll = some m →
    let fails : Prop := i.val = 0 ∧ ¬∃ ca cb : CompNo, namesActive inp a ca ∧ namesActive inp b cb ∧ ca ≠ cb
    let moves : Prop := ¬fails ∧ ∃ (ca cb : CompNo) (r : Record) (l : LiveFields),
      a.toNat = ca.val + 1 ∧ namesActive inp b cb ∧ s.slots[i] = some r ∧ r.custody = .aboard l ∧ r.comp = ca
    ∃ (t : State) (count : Nat), exec (.moveAllSlot .ends) s = .next t ∧ t.engine = none
      ∧ (moves → count = m.count + 1) ∧ (¬moves → count = m.count ∧ t.slots = s.slots ∧ t.occupancy = s.occupancy)
      ∧ (let ended (r : Result) : Prop := t.moveAll = none ∧ t.unitPort.phase = .result r
         let goesOn (m' : MoveAllRecord) : Prop := t.moveAll = some m' ∧ t.unitPort.phase = .waiting .moveAll
         (m.hold = .free → fails → ended (resultOf .badCompartment 0x19 [0]))
          ∧ (m.hold = .free → ¬fails → i.val = 127 → ended (resultOf .ok 0x19 [BitVec.ofNat 8 count]))
          ∧ (m.hold = .held → fails → goesOn
              { m with count := count, hold := .ended (resultOf .badCompartment 0x19 [0]) })
          ∧ (m.hold = .held → ¬fails → i.val = 127 → goesOn
              { m with count := count, hold := .ended (resultOf .ok 0x19 [BitVec.ofNat 8 count]) })
          ∧ (m.hold = .free ∨ m.hold = .held → ¬fails → ∀ j : SlotNo, j.val = i.val + 1 →
              goesOn { m with count := count, next := j })
          ∧ (m.hold = .stopping → ended (resultOf .cancelled 0x19 [BitVec.ofNat 8 count])))

/-- A slot step whose port was reset while it was in progress makes the same move or makes none as well, places no result
and leaves the port and the move-all record of a MOVE ALL accepted since as they are: no further slot step of its own walk
waits (R126, R177). -/
def Sys2Proof.Machine.DiscardedSlotStepMakesItsMoveAlone : Prop :=
  ∀ (a b : Byte) (i : SlotNo) (inp : StepInputs) (s t : State),
    s.workIs (.moveAllSlot a b i) inp → exec (.moveAllSlot .ends) s = .next t →
    exec (.moveAllSlot .ends) { s with engine := some { work := .moveAllSlot a b i, inputs := inp, discarded := true } }
      = .next { t with moveAll := s.moveAll, unitPort := s.unitPort }

/-- A slot step of MOVE ALL (R121 to R123, R125, R126, R176). The port's phase under a held ending rests on log 12, and the
next slot there on log 35. -/
def Obligations.MoveAllStepByItsRules : Prop :=
  MoveAllStepMovesOneRecord ∧ MoveAllStepSettlesTheWalk ∧ DiscardedSlotStepMakesItsMoveAlone

/-! ## Handover and closing (chapter 9) -/

/-- OFFER of an ABOARD record: OFFERS_FULL with 16 entries queued; else the record becomes OFFERED with the deadline now
plus the timeout used, its entry in the queue, and the timeout answered, ADJUSTED when its own was clamped (R131). -/
def Obligations.OfferQueuesTheRecord : Prop :=
  ∀ (p : PortId) (id : ConsignmentId) (own : Nat) (inp : StepInputs) (i : SlotNo) (r : Record) (l : LiveFields)
    (s : State),
    s.stepIs p (.offer id own) inp → IdsRight s → s.idAt id i r → r.custody = .aboard l →
    let used := if own = 0 then inp.offerTimeout else if own < 10 then 10 else if 3600 < own then 3600 else own
    let deadline := inp.now + BitVec.ofNat 32 used
    let q := insertOffer { slot := i, deadline := deadline } s.offers
    (16 ≤ s.offers.length → exec (.offerStep p .ends) s = .next (s.stepEnds p (resultOf .offersFull 0x20 [])))
      ∧ (s.offers.length < 16 → exec (.offerStep p .ends) s = .next
          (State.stepEnds
            { s with
              slots := put s.slots i (some { r with custody := .offered l deadline })
              offers := q, lapseWaiting := lapseDue s q }
            p (resultOf (if own = 0 ∨ used = own then .ok else .adjusted) 0x20
              ([BitVec.ofNat 8 i.val] ++ beBytes 2 used))))

/-- A new entry goes after every entry whose deadline is not later than its own and before the first that is later; a
queue whose deadlines lie within 2^31 s of each other stays in non-decreasing order (R128). -/
def Obligations.NewOfferStandsBehindEqualDeadlines : Prop :=
  ∀ (e : Offer) (q : List Offer),
    (∃ pre post : List Offer, q = pre ++ post ∧ insertOffer e q = pre ++ e :: post
        ∧ (∀ x ∈ pre, notLater x.deadline e.deadline = true)
        ∧ ∀ x : Offer, post.head? = some x → notLater x.deadline e.deadline = false)
      ∧ ∀ base : RouteTime, (∀ x ∈ e :: q, (x.deadline - base).toNat < 2147483648) →
        q.Pairwise (fun x y => notLater x.deadline y.deadline = true) →
        (insertOffer e q).Pairwise (fun x y => notLater x.deadline y.deadline = true)

/-- WITHDRAW of an OFFERED record takes its entry out of the queue wherever it stands and returns it to ABOARD with its
lapses unchanged (R133). -/
def Sys2Proof.Machine.WithdrawReturnsTheRecord : Prop :=
  ∀ (p : PortId) (id : ConsignmentId) (inp : StepInputs) (i : SlotNo) (r : Record) (l : LiveFields) (d : RouteTime)
    (s : State),
    s.stepIs p (.withdraw id) inp → IdsRight s → s.idAt id i r → r.custody = .offered l d →
    let q := s.offers.filter (fun o => decide (o.slot ≠ i))
    exec (.withdrawStep p .ends) s = .next
      (State.stepEnds
        { s with
          slots := put s.slots i (some { r with custody := .aboard l }), offers := q, lapseWaiting := lapseDue s q }
        p (resultOf .ok 0x21 [BitVec.ofNat 8 i.val]))

/-- A reached head deadline gives the lapse a step while the lapse release is released (R129); the lapse step then takes
the head entry, returns its record to ABOARD with one more lapse, and raises OFFER_LAPSED in both copies (R134). -/
def Sys2Proof.Machine.LapseTakesTheHeadOffer : Prop :=
  ∀ (o : Offer) (rest : List Offer) (s : State), s.power = .present → s.offers = o :: rest →
    (lapseDue s s.offers = true → exec .offerDeadlineReached s = .next { s with lapseWaiting := true })
      ∧ (lapseDue s s.offers = false → exec .offerDeadlineReached s = .next s)
      ∧ ∀ (inp : StepInputs) (r : Record) (l : LiveFields) (d : RouteTime), s.workIs .lapse inp → OffersRight s →
        s.slots[o.slot] = some r → r.custody = .offered l d →
        exec (.lapseStep .ends) s = .next
          (State.raise
            { s with
              engine := none, offers := rest, lapseWaiting := lapseDue s rest
              slots := put s.slots o.slot (some { r with custody := .aboard l, lapses := min 255 (r.lapses + 1) }) }
            (BitVec.twoPow 38 32))

/-- The two ways an offer ends without CONFIRM (R129, R133, R134). -/
def Obligations.OffersEndByWithdrawalOrLapse : Prop := WithdrawReturnsTheRecord ∧ LapseTakesTheHeadOffer

/-- CONFIRM of an OFFERED record: UNIT_UNSET while the unit identity is 0; else the close step's changes of R137, all in
the one step. -/
def Obligations.ConfirmClosesTheRecord : Prop :=
  ∀ (id : ConsignmentId) (receiver : Wide) (inp : StepInputs) (i : SlotNo) (r : Record) (l : LiveFields)
    (d : RouteTime) (k : ClassLimits) (s : State),
    s.stepIs .dock (.confirm id receiver) inp → IdsRight s → s.idAt id i r → r.custody = .offered l d →
    s.classes[r.cls] = some k →
    (s.unitId = 0 → exec (.closeStep .ends) s = .next (s.stepEnds .dock (resultOf .unitUnset 0x22 [])))
      ∧ (s.unitId ≠ 0 →
          let q := s.offers.filter (fun o => decide (o.slot ≠ i))
          ∃ check : Half,
            let f : ClosedFields :=
              { closeTime := inp.now, receiver := receiver, closingUnit := s.unitId
                limits := { upper := k.upper, hard := k.hard, low := k.low, warmBudget := k.warmBudget,
                            coldBudget := k.coldBudget }
                doorFinal := doorFigure inp r l, checkWord := check, scanPeriod := inp.period, statementRead := false }
            verifies (closedStatement { r with custody := .closed f } f) = true
              ∧ exec (.closeStep .ends) s = .next
                (State.stepEnds
                  { s with
                    slots := put s.slots i (some { r with custody := .closed f })
                    offers := q, lapseWaiting := lapseDue s q
                    useCount := put s.useCount r.cls (s.useCount[r.cls] - 1)
                    occupancy := put s.occupancy r.comp (s.occupancy[r.comp] - 1) }
                  .dock (resultOf .ok 0x22
                    ([BitVec.ofNat 8 i.val, r.verdict.byte, r.statementCause.byte] ++ beBytes 2 check.toNat))))

/-- A closed statement presented to another part reads back as the record it was built from: every field a carried
admission reads, and the verdict and reason cause without CARRIED (R102, R109, R139, R182). -/
def Obligations.ClosedStatementReadsBack : Prop :=
  ∀ (r : Record) (f : ClosedFields), FiguresRight r → CauseAgrees r → OptTempRight r.peakHigh → OptTempRight r.peakLow →
    r.custody = .closed f → f.scanPeriod ≤ 50 →
    let b := closedStatement r f
    b.length = 76 ∧ byteAt 0 b = 1 ∧ (byteAt 1 b).getLsbD 0 = false
      ∧ ((byteAt 1 b).getLsbD 1 = true ↔ r.cause = .carried) ∧ byteAt 2 b = r.verdict.byte
      ∧ presentedVerdict (byteAt 2 b) = r.verdict
      ∧ (∀ x : ReasonCause, r.cause = .reason x ∨ r.carriedCause = some x →
          byteAt 3 b = x.byte ∧ presentedCause r.verdict (byteAt 3 b) = some x)
      ∧ (r.cause = .nothing → byteAt 3 b = 0) ∧ BitVec.ofNat 96 (natAt 4 12 b) = r.id
      ∧ BitVec.ofNat 16 (natAt 16 2 b) = f.closingUnit ∧ BitVec.ofNat 16 (natAt 18 2 b) = r.carriedFrom.getD 0
      ∧ BitVec.ofNat 32 (natAt 20 4 b) = f.receiver ∧ (byteAt 24 b).toNat = r.cls.val
      ∧ (byteAt 25 b).toNat = r.comp.val + 1 ∧ natAt 42 4 b = r.warm ∧ natAt 46 4 b = r.cold
      ∧ natAt 50 4 b = r.excursion ∧ natAt 54 4 b = r.blind ∧ presentedPeak (intAt 58 b) = r.peakHigh
      ∧ presentedPeak (intAt 60 b) = r.peakLow
      ∧ (LimitsRight f.limits →
          intAt 26 b = f.limits.upper ∧ intAt 28 b = f.limits.hard
            ∧ (∀ l : LowLimits, f.limits.low = some l → intAt 30 b = l.lower ∧ intAt 32 b = l.floor)
            ∧ (f.limits.low = none → intAt 30 b = -32768 ∧ intAt 32 b = -32768)
            ∧ natAt 34 4 b = f.limits.warmBudget ∧ natAt 38 4 b = f.limits.coldBudget)
      ∧ natAt 62 2 b = f.doorFinal ∧ (byteAt 64 b).toNat = r.lapses
      ∧ (byteAt 65 b).toNat = f.scanPeriod ∧ BitVec.ofNat 32 (natAt 66 4 b) = r.admittedAt
      ∧ BitVec.ofNat 32 (natAt 70 4 b) = f.closeTime ∧ natAt 74 2 b = f.checkWord.toNat

/-- The check word of a statement makes the 38 words add up to 65,535 with the carry brought back, and a changed word of
the other 37 makes it wrong unless the change is by 65,535 (R108). -/
def Obligations.CheckWordCompletesTheSum : Prop :=
  ∀ words : List Nat, (∀ w ∈ words, w ≤ 65535) →
    (words ++ [checkWordOf words]).foldl carryAdd 0 = 65535 ∧ checkWordOf words ≤ 65535
      ∧ (words.foldl carryAdd 0) % 65535 = words.sum % 65535
      ∧ ∀ (pre post : List Nat) (w v : Nat), words = pre ++ w :: post → v ≤ 65535 → v ≠ w → v + 65535 ≠ w →
        w + 65535 ≠ v → checkWordOf (pre ++ v :: post) ≠ checkWordOf words

/-- READ STATEMENT of a CLOSED record answers its closed statement and sets statement read, the one change such a record
takes; of a live record it answers a provisional statement and changes nothing (R4, R141, R142). -/
def Obligations.ReadStatementMarksAClosedRecord : Prop :=
  ∀ (p : PortId) (id : ConsignmentId) (inp : StepInputs) (i : SlotNo) (r : Record) (s : State),
    s.stepIs p (.readStatement id) inp → IdsRight s → s.idAt id i r →
    (∀ f : ClosedFields, r.custody = .closed f → exec (.readStatementStep p .ends) s = .next
        (State.stepEnds
          { s with slots := put s.slots i (some { r with custody := .closed { f with statementRead := true } }) } p
          (resultOf .ok 0x23 (closedStatement r f))))
      ∧ ∀ (l : LiveFields) (k : ClassLimits), r.live = some l → s.classes[r.cls] = some k →
        ∃ b : List Byte, exec (.readStatementStep p .ends) s = .next (s.stepEnds p (resultOf .ok 0x23 b))
          ∧ b.length = 76 ∧ (byteAt 1 b).getLsbD 0 = true ∧ verifies b = false
          ∧ natAt 16 2 b = 0 ∧ natAt 20 4 b = 0 ∧ natAt 70 4 b = 0 ∧ natAt 74 2 b = 0
          ∧ natAt 62 2 b = doorFigure inp r l ∧ slice 26 8 b = limitBytes k.upper k.hard k.low
          ∧ slice 34 8 b = beBytes 4 k.warmBudget ++ beBytes 4 k.coldBudget
          ∧ byteAt 65 b = BitVec.ofNat 8 inp.period
          ∧ byteAt 0 b = 1 ∧ ((byteAt 1 b).getLsbD 1 = true ↔ r.cause = .carried) ∧ byteAt 2 b = r.verdict.byte
          ∧ (∀ x : ReasonCause, r.cause = .reason x ∨ (r.cause = .carried ∧ r.carriedCause = some x) → byteAt 3 b = x.byte)
          ∧ (r.cause = .nothing → byteAt 3 b = 0) ∧ BitVec.ofNat 96 (natAt 4 12 b) = r.id
          ∧ BitVec.ofNat 16 (natAt 18 2 b) = r.carriedFrom.getD 0 ∧ byteAt 24 b = BitVec.ofNat 8 r.cls.val
          ∧ byteAt 25 b = BitVec.ofNat 8 (r.comp.val + 1)
          ∧ slice 42 16 b = beBytes 4 r.warm ++ beBytes 4 r.cold ++ beBytes 4 r.excursion ++ beBytes 4 r.blind
          ∧ slice 58 4 b = intBytes (r.peakHigh.getD (-32768)) ++ intBytes (r.peakLow.getD (-32768))
          ∧ byteAt 64 b = BitVec.ofNat 8 r.lapses ∧ BitVec.ofNat 32 (natAt 66 4 b) = r.admittedAt

/-- RETIRE of a CLOSED record: UNREAD while its statement is unread and FORCE is absent; else its slot becomes FREE and
the counts stay (R143). -/
def Sys2Proof.Machine.RetireFreesAReadStatement : Prop :=
  ∀ (p : PortId) (id : ConsignmentId) (force : Bool) (inp : StepInputs) (i : SlotNo) (r : Record) (f : ClosedFields)
    (s : State),
    s.stepIs p (.retire id force) inp → IdsRight s → s.idAt id i r → r.custody = .closed f →
    exec (.retireStep p .ends) s = .next
      (if f.statementRead = false ∧ force = false then s.stepEnds p (resultOf .unread 0x24 [])
       else State.stepEnds { s with slots := put s.slots i none } p (resultOf .ok 0x24 [BitVec.ofNat 8 i.val]))

/-- The two steps that free a slot (R111, R143). -/
def Obligations.DiscardAndRetireFreeASlot : Prop := DiscardFreesTheSlot ∧ RetireFreesAReadStatement

/-! ## Classes, compartments and the identity in their steps (R27 to R31, R50, R159) -/

/-- SET CLASS in its class test step: CLASS_IN_USE while its class is in use; else the carried values are clamped, tested
for order, and stored whole with their echo, ADJUSTED when clamping changed one; with UNSET the class is unset
(R27 to R31). -/
def Obligations.ClassTestStoresAnUnusedClass : Prop :=
  ∀ (k : ClassNo) (v : CarriedClass) (inp : StepInputs) (s : State),
    let clampTo (lo hi x : Int) : Int := if x < lo then lo else if hi < x then hi else x
    let clampUp (lo hi x : Nat) : Nat := if x < lo then lo else if hi < x then hi else x
    let w : ClassLimits :=
      { upper := clampTo (-400) 500 v.upper, hard := clampTo (-400) 500 v.hard
        low := if v.lower = -32768 then none
          else some { lower := clampTo (-400) 500 v.lower, floor := clampTo (-400) 500 v.floor }
        warmBudget := clampUp 0 16000000 v.warmBudget, coldBudget := clampUp 0 16000000 v.coldBudget
        watchPercent := clampUp 10 95 v.watchPercent, tolerance := clampUp 0 86400 v.tolerance }
    let same : Prop := w.upper = v.upper ∧ w.hard = v.hard ∧ w.warmBudget = v.warmBudget ∧ w.coldBudget = v.coldBudget
      ∧ w.watchPercent = v.watchPercent ∧ w.tolerance = v.tolerance
      ∧ ∀ l : LowLimits, w.low = some l → l.lower = v.lower ∧ l.floor = v.floor
    let ordered : Prop := w.upper < w.hard
      ∧ ∀ l : LowLimits, w.low = some l → l.floor < l.lower ∧ l.lower ≤ w.upper
    let echo (code : ResultCode) : Result :=
      resultOf code 0x30 (limitBytes w.upper w.hard w.low ++ beBytes 4 w.warmBudget ++ beBytes 4 w.coldBudget
        ++ [BitVec.ofNat 8 w.watchPercent] ++ beBytes 4 w.tolerance)
    (s.stepIs .unit (.setClass k v) inp →
        (0 < s.useCount[k] →
            exec (.classTestStep .ends) s = .next (s.stepEnds .unit (resultOf .classInUse 0x30 [])))
          ∧ (s.useCount[k] = 0 → ¬ordered →
              exec (.classTestStep .ends) s = .next (s.stepEnds .unit (resultOf .badLimits 0x30 [])))
          ∧ (s.useCount[k] = 0 → ordered → same → exec (.classTestStep .ends) s = .next
              (State.stepEnds { s with classes := put s.classes k (some w) } .unit (echo .ok)))
          ∧ (s.useCount[k] = 0 → ordered → ¬same → exec (.classTestStep .ends) s = .next
              (State.stepEnds { s with classes := put s.classes k (some w) } .unit (echo .adjusted))))
      ∧ (s.stepIs .unit (.setClassUnset k) inp → exec (.classTestStep .ends) s = .next
          (if 0 < s.useCount[k] then s.stepEnds .unit (resultOf .classInUse 0x30 [])
           else State.stepEnds { s with classes := put s.classes k none } .unit (resultOf .ok 0x30 [])))

/-- SET COMPARTMENT with mode OFF in its compartment test step: COMPARTMENT_IN_USE while the compartment is occupied; else
the clamped settings are stored, the compartment takes the OFF form with its openings kept, and its probes leave service
(R39, R50, R54). That the store also overwrites one of mode ACTIVE accepted since the step began is the model's choice
(log 34), and so is that a probe leaving service has its answered mark cleared too (log 36) and the field that tells its
service since the scan's start (log 26). -/
def Sys2Proof.Machine.CompartmentTestSwitchesOff : Prop :=
  ∀ (c : CompNo) (raw : Settings) (inp : StepInputs) (s : State),
    s.stepIs .unit (.setCompartmentOff c raw) inp → raw.active = false →
    let clampTo (lo hi v : Int) : Int := if v < lo then lo else if hi < v then hi else v
    let v : Settings :=
      { raw with
        airOffset := clampTo (-50) 50 raw.airOffset
        holdLimit := if 15 < raw.holdLimit then 15 else raw.holdLimit
        doorLimit := if raw.doorLimit < 10 then 10 else if 3600 < raw.doorLimit then 3600 else raw.doorLimit
        ceiling := clampTo (-400) 500 raw.ceiling }
    (0 < s.occupancy[c] →
        exec (.compartmentTestStep .ends) s = .next (s.stepEnds .unit (resultOf .compartmentInUse 0x38 [])))
      ∧ (s.occupancy[c] = 0 → ∃ probes : Vector Probe 8,
          exec (.compartmentTestStep .ends) s = .next
            (State.stepEnds
              { s with
                probes := probes
                comps := put s.comps c
                  { settings := v, defrost := .normal, shieldLeft := 0, recoveryLeft := 0, doorOpen := false
                    openings := s.comps[c].openings, doorDeadline := none, lastGood := none, held := 0
                    keptSource := none, snapshot := none, ceilingInForce := s.comps[c].ceilingInForce } }
              .unit (resultOf (if v = raw then .ok else .adjusted) 0x38 ([BitVec.ofNat 8 (c.val + 1)] ++ v.bytes)))
          ∧ ∀ n : ProbeNo, probes[n] =
              if n.val / 2 = c.val ∧ servedBy s.comps[c].settings n = true then
                { status := .absent, reading := none, answered := false, steady := false }
              else s.probes[n])

/-- SET UNIT ID in its table test step: TABLE_NOT_EMPTY while any slot is non-FREE; else the identity is stored as
carried, 0 included, and echoed (R22, R159). -/
def Sys2Proof.Machine.TableTestStoresTheIdentity : Prop :=
  ∀ (v : Half) (inp : StepInputs) (s : State), s.stepIs .unit (.setUnitId v) inp →
    ((∃ i : SlotNo, s.slots[i] ≠ none) →
        exec (.tableTestStep .ends) s = .next (s.stepEnds .unit (resultOf .tableNotEmpty 0x4A [])))
      ∧ ((∀ i : SlotNo, s.slots[i] = none) → exec (.tableTestStep .ends) s = .next
          (State.stepEnds { s with unitId := v } .unit (resultOf .ok 0x4A (beBytes 2 v.toNat))))

/-- The compartment test step and the table test step (R39, R50, R159). -/
def Obligations.SwitchOffAndIdentityTests : Prop := CompartmentTestSwitchesOff ∧ TableTestStoresTheIdentity

/-! ## Doors (section 3.3) -/

/-- A door line that reaches the open level is a door event of an ACTIVE compartment on main power: one more opening, the
door OPEN, a deadline from now; and at the closed level the door is CLOSED and the deadline gone (R40, R41). Without main
power, or for an OFF compartment, nothing but the line's level changes, and a level already held is no change. -/
def Sys2Proof.Machine.DoorEventsFollowTheLine : Prop :=
  ∀ (c : CompNo) (s : State),
    let x := s.comps[c]
    let event : Prop := s.power = .present ∧ x.settings.active = true
    (s.doorLines[c] = false → event → exec (.doorOpens c) s = .next
        { s with
          doorLines := put s.doorLines c true
          comps := put s.comps c
            { x with
              doorOpen := true, openings := x.openings + 1
              doorDeadline := some (s.clock + BitVec.ofNat 32 x.settings.doorLimit) } })
      ∧ (s.doorLines[c] = false → ¬event →
          exec (.doorOpens c) s = .next { s with doorLines := put s.doorLines c true })
      ∧ (s.doorLines[c] = true → exec (.doorOpens c) s = .next s)
      ∧ (s.doorLines[c] = true → event → exec (.doorCloses c) s = .next
          { s with
            doorLines := put s.doorLines c false
            comps := put s.comps c { x with doorOpen := false, doorDeadline := none } })
      ∧ (s.doorLines[c] = true → ¬event →
          exec (.doorCloses c) s = .next { s with doorLines := put s.doorLines c false })
      ∧ (s.doorLines[c] = false → exec (.doorCloses c) s = .next s)

/-- A door-long deadline reached while the door is OPEN raises DOOR_LONG for its compartment in both copies and becomes
absent; otherwise nothing happens (R42). -/
def Sys2Proof.Machine.DoorLongReportedOnce : Prop :=
  ∀ (c : CompNo) (d : RouteTime) (s : State), s.power = .present →
    (s.comps[c].doorOpen = true → s.comps[c].doorDeadline = some d → (s.clock - d).toNat < 2147483648 →
        exec (.doorLong c) s = .next
          (State.raise { s with comps := put s.comps c { s.comps[c] with doorDeadline := none } }
            (BitVec.twoPow 38 (8 * c.val + 3))))
      ∧ ((s.comps[c].doorOpen = false ∨ s.comps[c].doorDeadline = none
            ∨ (s.comps[c].doorDeadline = some d ∧ 2147483648 ≤ (s.clock - d).toNat)) →
          exec (.doorLong c) s = .next s)

/-- Door events and the door-long deadline (R40 to R42). -/
def Obligations.DoorsCountedAndReported : Prop := DoorEventsFollowTheLine ∧ DoorLongReportedOnce

/-! ## Scans (chapter 4) -/

/-- A reached tick brings the scan period into force and sets the next tick one period on; in IDLE it starts a scan of
every probe in service with the span of R60, and in POLLING or CHARGING it is counted as missed with OVERRUN raised
(R58, R60, R61). A scan with nothing to poll goes straight on to its forming. -/
def Obligations.ReachedTickStartsOrMissesAScan : Prop :=
  ∀ (t : RouteTime) (s : State), s.power = .present → s.scanner.nextTick = some t →
    let ticked : Scanner :=
      { s.scanner with
        periodInForce := s.scanner.period, nextTick := some (t + BitVec.ofNat 32 (s.scanner.period * 6)) }
    let list := (List.finRange 8).filter
      (fun n : ProbeNo => servedBy (s.comps[(⟨n.val / 2, by omega⟩ : CompNo)]).settings n)
    let started : State :=
      { s with
        scanner := { ticked with
          phase := .polling, list := list, toPoll := list, span := some (s.scanner.period * (1 + s.scanner.lag)), lag := 0 }
        probes := Vector.ofFn (fun n : ProbeNo =>
          { s.probes[n] with answered := false, steady := list.contains n }) }
    (2147483648 ≤ (s.clock - t).toNat → exec .scanTick s = .next s)
      ∧ ((s.clock - t).toNat < 2147483648 → s.scanner.phase = .idle →
          exec .scanTick s = .next (if list = [] then started.formSnapshots else started))
      ∧ ((s.clock - t).toNat < 2147483648 → s.scanner.phase ≠ .idle → exec .scanTick s = .next
          (State.raise { s with scanner := { ticked with lag := min 1000 (s.scanner.lag + 1) } } (BitVec.twoPow 38 34)))

/-- A poll ends with the answer of the probe being polled, or as SILENT: the outcome is recorded when the probe is in
service and has stayed so since the scan started, raising FAULT when it moves from no fault to one, and is dropped
otherwise; the next listed probe is polled, or the snapshots are formed. An answer of another probe, or one whose check
does not agree, ends nothing (R55, R56, R57, R63). -/
def Obligations.PollEndsWithItsOutcome : Prop :=
  ∀ (n : ProbeNo) (rest : List ProbeNo) (a : Answer) (s : State), s.power = .present → s.scanner.phase = .polling →
    s.scanner.toPoll = n :: rest →
    let x := s.probes[n]
    let served := servedBy (s.comps[(⟨n.val / 2, by omega⟩ : CompNo)]).settings n
    let isFault (st : ProbeStatus) : Prop := st = .openElement ∨ st = .shortElement ∨ st = .silent
    let ends (status : ProbeStatus) (reading : Option Int) : State :=
      let u : State := { s with scanner := { s.scanner with toPoll := rest } }
      if served = true ∧ x.steady = true then
        { u with probes := put s.probes n { x with status := status, reading := reading, answered := true } }
      else u
    let next (u : State) : State := if rest = [] then u.formSnapshots else u
    let answers (c : Instr) (status : ProbeStatus) (reading : Option Int) : Prop :=
      ∃ fl : FlagSet, exec c s = .next (next ((ends status reading).raise fl))
        ∧ (served = true → x.steady = true → ¬isFault x.status → isFault status →
            fl = BitVec.twoPow 38 (8 * (n.val / 2)))
        ∧ (¬(served = true ∧ x.steady = true ∧ ¬isFault x.status ∧ isFault status) → fl = 0)
    (∀ t : BitVec 16, answers (.probeAnswer n (.temperature t) true)
        (if -400 ≤ t.toInt ∧ t.toInt ≤ 500 then .good else .clamped)
        (some (if t.toInt < -400 then -400 else if 500 < t.toInt then 500 else t.toInt)))
      ∧ answers (.probeAnswer n .openElement true) .openElement none
      ∧ answers (.probeAnswer n .shortElement true) .shortElement none
      ∧ answers .probeSilent .silent none
      ∧ exec (.probeAnswer n a false) s = .next s
      ∧ ∀ (m : ProbeNo) (ok : Bool), m ≠ n → exec (.probeAnswer m a ok) s = .next s

/-- The forming of a scan's snapshots: every ACTIVE compartment forms its own on its state as it stands, an OFF one none;
the conditions that their forming raises are set in both flag copies; the scan tag rises by one, last snapshot time becomes
now, and the accrual pass is requested with that tag at slot 0 (R47, R63, R65, R71). Nothing else changes. -/
def Sys2Proof.Machine.FormingRequestsThePass : Prop :=
  ∀ s : State,
    let partOf (n : ProbeNo) : Option Int :=
      if servedBy (s.comps[(⟨n.val / 2, by omega⟩ : CompNo)]).settings n = true ∧ s.probes[n].answered = true
        ∧ (s.probes[n].status = .good ∨ s.probes[n].status = .clamped) then s.probes[n].reading else none
    let sim (c : CompNo) : Option Int := partOf ⟨2 * c.val, by omega⟩
    let air (c : CompNo) : Option Int := partOf ⟨2 * c.val + 1, by omega⟩
    ∃ (comps : Vector Compartment 4) (fl : FlagSet),
      s.formSnapshots
          = State.raise
              { s with
                comps := comps, lastSnapshotTime := s.clock
                scanner := { s.scanner with tag := s.scanner.tag + 1, phase := .charging }
                exposure := { s.exposure with passTag := some (s.scanner.tag + 1), accrualCursor := 0 } }
              fl
        ∧ (∀ c : CompNo, s.comps[c].settings.active = false → comps[c] = s.comps[c])
        ∧ (∀ c : CompNo, s.comps[c].settings.active = true →
            comps[c] = s.comps[c].form (sim c) (air c) (s.scanner.span.getD 0) s.clock)
        ∧ (∀ b : Nat, fl.getLsbD b = true ↔ ∃ c : CompNo, s.comps[c].settings.active = true
            ∧ (s.comps[c].formFlags c (sim c) (air c)).getLsbD b = true)
        ∧ s.formSnapshots.unitPort.flags = s.unitPort.flags ||| fl
        ∧ s.formSnapshots.dockPort.flags = s.dockPort.flags ||| fl

/-- A snapshot's source, temperature, last good reading and held count by the table of R64, and its other contents
(R36, R65, R66). -/
def Sys2Proof.Machine.SourceChosenByTheTable : Prop :=
  ∀ (x : Compartment) (sim air : Option Int) (span : Nat) (now : RouteTime),
    let airCounts : Prop := x.doorOpen = false ∧ x.defrost ≠ .defrost
    ∃ (n : Snapshot) (y : Compartment), x.form sim air span now = y ∧ y.snapshot = some n ∧ n.span = span
      ∧ n.doorOpen = x.doorOpen ∧ n.takenAt = now ∧ y.ceilingInForce = x.settings.ceiling
      ∧ y.keptSource = some n.reading.source ∧ y.settings = x.settings ∧ y.doorOpen = x.doorOpen
      ∧ y.openings = x.openings ∧ y.doorDeadline = x.doorDeadline
      ∧ (∀ t : Int, sim = some t → n.reading = .simulant t ∧ y.lastGood = some t ∧ y.held = 0)
      ∧ (∀ a : Int, sim = none → airCounts → air = some a →
          let v := a + x.settings.airOffset
          let t := if v < -400 then -400 else if 500 < v then 500 else v
          n.reading = .air t ∧ y.lastGood = some t ∧ y.held = 0)
      ∧ (sim = none → (¬airCounts ∨ air = none) →
          (∀ g : Int, x.lastGood = some g → x.held < x.settings.holdLimit →
              n.reading = .held g ∧ y.lastGood = some g ∧ y.held = x.held + 1)
            ∧ ((x.lastGood = none ∨ x.settings.holdLimit ≤ x.held) →
              n.reading = .blind ∧ y.lastGood = x.lastGood ∧ y.held = x.held))

/-- The shield decision, the recovery countdown and SHIELD_SPENT at a snapshot (R47), and the conditions a change of
source raises (R65). -/
def Sys2Proof.Machine.ShieldSpentAtTheSnapshot : Prop :=
  ∀ (x : Compartment) (c : CompNo) (sim air : Option Int) (span : Nat) (now : RouteTime), CompRight x →
    ∃ (n : Snapshot) (y : Compartment), x.form sim air span now = y ∧ y.snapshot = some n
      ∧ (n.shielded = true ↔ x.defrost ≠ .normal ∧ 0 < x.shieldLeft)
      ∧ (let left := if n.shielded = true then x.shieldLeft - 1 else x.shieldLeft
         (x.defrost = .recovery → x.recoveryLeft ≤ 1 → y.defrost = .normal ∧ y.shieldLeft = 0 ∧ y.recoveryLeft = 0)
          ∧ (x.defrost = .recovery → 1 < x.recoveryLeft →
              y.defrost = .recovery ∧ y.shieldLeft = left ∧ y.recoveryLeft = x.recoveryLeft - 1)
          ∧ (x.defrost ≠ .recovery → y.defrost = x.defrost ∧ y.shieldLeft = left ∧ y.recoveryLeft = x.recoveryLeft))
      ∧ (∀ b : Nat, (x.formFlags c sim air).getLsbD b = true ↔
          (b = 8 * c.val + 4 ∧ n.shielded = true ∧ x.shieldLeft = 1 ∧ y.defrost ≠ .normal)
            ∨ (b = 8 * c.val + 1 ∧ n.reading.source = .held
              ∧ (x.keptSource = some .simulant ∨ x.keptSource = some .air))
            ∨ (b = 8 * c.val + 2 ∧ n.reading.source = .blind ∧ x.keptSource ≠ some .blind))

/-- The forming of snapshots (R36, R47, R63 to R66, R71). -/
def Obligations.SnapshotsFormedByTheirTables : Prop :=
  FormingRequestsThePass ∧ SourceChosenByTheTable ∧ ShieldSpentAtTheSnapshot

/-! ## Exposure and verdicts (chapters 5 and 6) -/

/-- A set of verdicts reached is applied in one act: the record takes the highest, with the first cause of that verdict in
the cause order, and raises that verdict's flag for its compartment; with none higher it stays as it was (R86, R94, R96). -/
def Obligations.VerdictRisesInOneAct : Prop :=
  ∀ (reached : List ReasonCause) (r : Record),
    Applied r (applyReached reached r).1 (applyReached reached r).2 (fun c => c ∈ reached)

/-- An accrual visit charges the live record in its slot unless it carries the pass's tag: a BLIND snapshot adds 6 × s
blind seconds and is judged by the blind test; any other widens the peaks, adds the warm and the cold charge and the
excursion time, and is judged by the hard limits and the budgets; the record then carries the tag
(R73, R78 to R86). -/
def Obligations.AccrualVisitChargesByTheStages : Prop :=
  ∀ (inp : StepInputs) (g : ScanTag) (s : State), s.workIs .accrual inp → s.exposure.passTag = some g →
    let i := s.exposure.accrualCursor
    let ends (slots : Vector (Option Record) 128) (fl : FlagSet) : Host.Outcome State Fault Refusal :=
      .next (State.accrualAdvance { (s.raise fl) with slots := slots, engine := none })
    ((∀ (r : Record) (l : LiveFields), s.slots[i] = some r → r.live = some l → l.tag = g) →
        exec (.accrualVisit .ends) s = ends s.slots 0)
      ∧ ∀ (r : Record) (l : LiveFields) (k : ClassLimits) (n : Snapshot), s.slots[i] = some r → r.live = some l →
        l.tag ≠ g → s.classes[r.cls] = some k → inp.comps[r.comp].snapshot = some n →
        let tagged (q : Record) : Record :=
          { q with custody := match r.custody with
              | .aboard l => .aboard { l with tag := g }
              | .offered l d => .offered { l with tag := g } d
              | .closed f => .closed f }
        (n.reading.temp = none → ∃ (q : Record) (fl : FlagSet),
            exec (.accrualVisit .ends) s = ends (put s.slots i (some q)) fl
              ∧ (let blind := min 4294967295 (r.blind + 6 * n.span)
                 Applied (tagged { r with blind := blind }) q fl (BlindReached k blind)))
          ∧ ∀ t : Int, n.reading.temp = some t → ∃ (q : Record) (fl : FlagSet),
            exec (.accrualVisit .ends) s = ends (put s.slots i (some q)) fl
              ∧ (let e := excesses k inp.comps[r.comp].ceilingInForce n.shielded t
                 let warm := min 16777215 (r.warm + e.1 * n.span)
                 let cold := min 16777215 (r.cold + e.2 * n.span)
                 Applied
                  (tagged
                    { r with
                      warm := warm, cold := cold
                      excursion := if 0 < e.1 ∨ 0 < e.2 then min 4294967295 (r.excursion + 6 * n.span) else r.excursion
                      peakHigh := some (match r.peakHigh with
                        | some h => if h < t then t else h
                        | none => t)
                      peakLow := some (match r.peakLow with
                        | some h => if t < h then t else h
                        | none => t) })
                  q fl (fun x => HardReached k (some t) (some t) x ∨ BudgetReached k warm cold x))

/-- After an accrual visit below slot 127 the next slot's visit waits; after slot 127's the pass has ended: no pass tag,
the cursor 0, and the scanner IDLE, or polling a late scan at once when ticks were missed (R62, R72). That the scan list
keeps the ended scan's list in IDLE, as the whole state at lag 0 says, is the model's choice (log 11). -/
def Obligations.AccrualPassEndsAfterItsLastSlot : Prop :=
  ∀ s : State,
    (∀ j : SlotNo, j.val = s.exposure.accrualCursor.val + 1 →
        s.accrualAdvance = { s with exposure := { s.exposure with accrualCursor := j } })
      ∧ (s.exposure.accrualCursor.val = 127 →
          let u : State :=
            { s with
              exposure := { s.exposure with accrualCursor := 0, passTag := none }
              scanner := { s.scanner with phase := .idle, span := none } }
          (s.scanner.lag = 0 → s.accrualAdvance = u)
            ∧ (0 < s.scanner.lag → u.scanList ≠ [] →
              s.accrualAdvance.scanner =
                { u.scanner with
                  phase := .polling, list := u.scanList, toPoll := u.scanList, lag := 0
                  span := some (s.scanner.periodInForce * (1 + s.scanner.lag)) }
              ∧ s.accrualAdvance.scanner.nextTick = s.scanner.nextTick
              ∧ s.accrualAdvance.slots = s.slots ∧ s.accrualAdvance.exposure = u.exposure)
            ∧ (0 < s.scanner.lag → u.scanList = [] →
              s.accrualAdvance.scanner.phase = .charging ∧ s.accrualAdvance.scanner.tag = s.scanner.tag + 1
              ∧ s.accrualAdvance.scanner.lag = 0 ∧ s.accrualAdvance.slots = s.slots
              ∧ s.accrualAdvance.exposure.passTag = some (s.scanner.tag + 1)))

/-- A gap visit passes over a slot that is FREE, CLOSED or exempt, an exempt one leaving the set, and charges any other
live record the gap amount as blind seconds, judges it by the blind test, and gives it the current tag; after slot 127's
the pass is complete and the scanner and the lapses go on (R97, R155, R157). That the cursor then goes back to 0 and the
gap amount stays, as the whole state after that visit says, is the model's choice (log 33). -/
def Obligations.GapVisitChargesBlindTime : Prop :=
  ∀ (inp : StepInputs) (s : State), s.workIs .gap inp →
    let i := s.exposure.gapCursor
    let ends (u : State) : Host.Outcome State Fault Refusal := .next (State.gapAdvance { u with engine := none })
    (s.exposure.gapExempt[i] = true → exec (.gapVisit .ends) s = ends
        { s with exposure := { s.exposure with gapExempt := put s.exposure.gapExempt i false } })
      ∧ (s.exposure.gapExempt[i] = false →
          ((∀ (r : Record), s.slots[i] = some r → r.live = none) → exec (.gapVisit .ends) s = ends s)
            ∧ ∀ (r : Record) (l : LiveFields) (k : ClassLimits), s.slots[i] = some r → r.live = some l →
              s.classes[r.cls] = some k → ∃ (q : Record) (fl : FlagSet),
              exec (.gapVisit .ends) s = ends { (s.raise fl) with slots := put s.slots i (some q) }
                ∧ (let blind := min 4294967295 (r.blind + s.exposure.gapAmount.toNat)
                   Applied
                    { r with
                      blind := blind
                      custody := match r.custody with
                        | .aboard l => .aboard { l with tag := inp.tag }
                        | .offered l d => .offered { l with tag := inp.tag } d
                        | .closed f => .closed f }
                    q fl (BlindReached k blind)))
      ∧ ∀ u : State,
        (∀ j : SlotNo, j.val = u.exposure.gapCursor.val + 1 →
            u.gapAdvance = { u with exposure := { u.exposure with gapCursor := j } })
          ∧ ∀ e : RouteTime, u.exposure.gapCursor.val = 127 → u.exposure.gapEnd = some e →
            u.gapAdvance =
              { u with
                lastSnapshotTime := e, lapseHeld := false
                exposure :=
                  { u.exposure with gapEnd := none, gapCursor := 0, gapExempt := Vector.replicate 128 false }
                lapseWaiting := lapseDue { u with lapseHeld := false } u.offers
                scanner :=
                  { u.scanner with
                    nextTick := some (u.clock + BitVec.ofNat 32 (u.scanner.periodInForce * 6)) } }

/-! ## Main power (sections 10.2 to 10.5) -/

/-- A loss of main power keeps what section 10.2 lists as retained and loses the rest; a step in progress has completed
with every change its end would make, its result discarded by a PORT RESET or not, or has made none (R153). The values that the lost items' fields hold while main power
is lost are the model's choice (log 15); what an accrual or a gap visit that completes at the loss brings about is its
reading (log 13). -/
def Obligations.PowerLossKeepsTheRetentionDomain : Prop :=
  ∀ (completes : Bool) (s : State), s.power = .present →
    ∃ t : State, exec (.mainPowerLoss completes) s = .next t
      ∧ t.power = .lost ∧ t.clock = s.clock ∧ t.lastStart = s.lastStart ∧ t.valid = s.valid
      ∧ t.offerTimeout = s.offerTimeout ∧ t.scanner.period = s.scanner.period ∧ t.scanner.tag = s.scanner.tag
      ∧ t.engine = none ∧ t.moveAll = none ∧ t.scanner.nextTick = none ∧ t.scanner.phase = .idle ∧ t.scanner.lag = 0
      ∧ t.exposure.passTag = none ∧ t.exposure.gapEnd = none ∧ t.lapseHeld = true
      ∧ (∀ p : PortId, (t.port p).phase = .idle ∧ (t.port p).frame = none ∧ (t.port p).lastRefusal = none
          ∧ (t.port p).filter = none ∧ (t.port p).flags = 0 ∧ t.readyLine p = false)
      ∧ (∀ c : CompNo, t.comps[c].snapshot = none ∧ t.comps[c].defrost = .normal ∧ t.comps[c].doorDeadline = none
          ∧ t.comps[c].openings = s.comps[c].openings ∧ t.comps[c].keptSource = none ∧ t.comps[c].held = 0)
      ∧ ((s.engine = none ∨ completes = false) → t.slots = s.slots ∧ t.useCount = s.useCount
          ∧ t.occupancy = s.occupancy ∧ t.offers = s.offers ∧ t.classes = s.classes ∧ t.unitId = s.unitId
          ∧ t.lastSnapshotTime = s.lastSnapshotTime
          ∧ ∀ c : CompNo, t.comps[c].settings = s.comps[c].settings ∧ t.comps[c].lastGood = s.comps[c].lastGood)
      ∧ (∀ (p : PortId) (cmd : PortCommand) (row : StepPhase → Instr) (inp : StepInputs) (discarded : Bool) (u : State),
          completes = true → s.engine = some { work := .port p cmd, inputs := inp, discarded := discarded } →
          stepRow p cmd = some row → exec (row .ends) s = .next u →
          t.slots = u.slots ∧ t.useCount = u.useCount ∧ t.occupancy = u.occupancy ∧ t.offers = u.offers
            ∧ t.classes = u.classes ∧ t.unitId = u.unitId ∧ t.lastSnapshotTime = u.lastSnapshotTime
            ∧ ∀ c : CompNo, t.comps[c].settings = u.comps[c].settings ∧ t.comps[c].lastGood = u.comps[c].lastGood)
      ∧ (∀ (c : Instr) (w : StepWork) (inp : StepInputs) (discarded : Bool) (u : State), completes = true →
          s.engine = some { work := w, inputs := inp, discarded := discarded } →
          ((c, w) ∈ [(.accrualVisit .ends, .accrual), (.gapVisit .ends, .gap), (.lapseStep .ends, .lapse)]
            ∨ (c = .moveAllSlot .ends ∧ ∃ (a b : Byte) (i : SlotNo), w = .moveAllSlot a b i)) →
          exec c s = .next u → t.slots = u.slots ∧ t.offers = u.offers ∧ t.useCount = u.useCount
            ∧ t.occupancy = u.occupancy ∧ t.classes = u.classes ∧ t.unitId = u.unitId
            ∧ t.lastSnapshotTime = (if w = .accrual then s.lastSnapshotTime else u.lastSnapshotTime)
            ∧ ∀ k : CompNo, t.comps[k].settings = u.comps[k].settings ∧ t.comps[k].lastGood = u.comps[k].lastGood)

/-- The return of main power: with the validity mark set a resume start, with it clear a blank start, whose values are
those of reset but for the door lines and the queue (R151, R154, R158); the failure of the retention supply clears the
mark (R152), and the mark alone by the model's reading (log 16). A cut resume start leaves every retained item as it was, but
that the kind of start is written and open doors are counted. The stages in which a cut start is counted, and so from which
stage those two have moved on and a cut blank start has the mark set, are the model's choice (log 7). -/
def Obligations.PowerReturnStartsByTheMark : Prop :=
  ∀ s : State, s.power = .lost →
    (s.valid = false → exec (.mainPowerReturn none) s
        = .next { State.reset with doorLines := s.doorLines, pending := s.pending })
      ∧ exec .retentionSupplyFails s = .next { s with valid := false }
      ∧ (s.valid = true → ∃ t : State, exec (.mainPowerReturn none) s = .next t
          ∧ t.power = .present ∧ t.lastStart = .resume ∧ t.valid = true ∧ t.clock = s.clock ∧ t.slots = s.slots
          ∧ t.useCount = s.useCount ∧ t.occupancy = s.occupancy ∧ t.classes = s.classes ∧ t.offers = s.offers
          ∧ t.offerTimeout = s.offerTimeout ∧ t.unitId = s.unitId ∧ t.lastSnapshotTime = s.lastSnapshotTime
          ∧ (∀ p : PortId, (t.port p).phase = .idle ∧ (t.port p).lastRefusal = none ∧ (t.port p).cursor = 0
              ∧ (t.port p).filter = none ∧ (t.port p).flags = BitVec.twoPow 38 35
              ∧ (t.port p).mask = BitVec.allOnes 38 ∧ t.readyLine p = true)
          ∧ (∀ c : CompNo,
              let x := s.comps[c]
              (x.settings.active = true → t.comps[c] =
                { settings := x.settings, defrost := .normal, shieldLeft := 0, recoveryLeft := 0
                  doorOpen := s.doorLines[c]
                  openings := if s.doorLines[c] = true then x.openings + 1 else x.openings
                  doorDeadline :=
                    if s.doorLines[c] = true then some (s.clock + BitVec.ofNat 32 x.settings.doorLimit) else none
                  lastGood := x.lastGood, held := 0, keptSource := none
                  snapshot := some { reading := .blind, span := s.scanner.period, doorOpen := s.doorLines[c],
                                     shielded := false, takenAt := s.clock }
                  ceilingInForce := x.settings.ceiling })
              ∧ (x.settings.active = false → CompRight t.comps[c] ∧ t.comps[c].settings = x.settings
                  ∧ t.comps[c].openings = x.openings))
          ∧ t.scanner = { period := s.scanner.period, periodInForce := s.scanner.period, nextTick := none, phase := .idle,
                          lag := 0, tag := s.scanner.tag, list := [], toPoll := [], span := none }
          ∧ (∀ n : ProbeNo, t.probes[n].reading = none ∧ t.probes[n].status =
              (if servedBy (s.comps[(⟨n.val / 2, by omega⟩ : CompNo)]).settings n = true then .unread else .absent))
          ∧ t.lapseHeld = true ∧ t.lapseWaiting = false
          ∧ t.exposure = { passTag := none, accrualCursor := 0, gapCursor := 0, gapEnd := some s.clock,
                           gapAmount := s.clock - s.lastSnapshotTime, gapExempt := Vector.replicate 128 false }
          ∧ t.order = [.accrual, .lapse, .unitPort, .dockPort, .gap] ∧ t.engine.map (·.work) = some .gap)
      ∧ ∀ k : Nat, ∃ t : State, exec (.mainPowerReturn (some k)) s = .next t ∧ t.power = .lost ∧ t.engine = none
        ∧ (s.valid = true → t.valid = true ∧ t.clock = s.clock ∧ t.slots = s.slots ∧ t.offers = s.offers
            ∧ t.offerTimeout = s.offerTimeout ∧ t.classes = s.classes ∧ t.useCount = s.useCount
            ∧ t.occupancy = s.occupancy ∧ t.unitId = s.unitId ∧ t.lastSnapshotTime = s.lastSnapshotTime
            ∧ t.scanner.period = s.scanner.period ∧ t.scanner.tag = s.scanner.tag
            ∧ t.lastStart = (if k = 0 then s.lastStart else .resume)
            ∧ ∀ c : CompNo, t.comps[c].settings = s.comps[c].settings
              ∧ (CompRight s.comps[c] → t.comps[c].lastGood = s.comps[c].lastGood)
              ∧ t.comps[c].openings =
                (if 2 ≤ k ∧ s.comps[c].settings.active = true ∧ s.doorLines[c] = true then s.comps[c].openings + 1
                 else s.comps[c].openings))
        ∧ (s.valid = false → (t.valid = true ↔ 2 ≤ k))

/-! ## Invariants and what never changes -/

/-- The arbiter's order always ranks the five requesters, and the ports, the engine and the MOVE ALL in flight always
agree (R12, R171, R173, R176). -/
def Obligations.EveryStepKeepsTheEngineRight : Prop :=
  ∀ s t : State, OrderRight s → PortsRight s → step s = .next t → OrderRight t ∧ PortsRight t

/-- No two non-FREE slots ever hold one ID, and none holds the all-zero ID (R5, R6). -/
def Obligations.EveryStepKeepsIdsDistinct : Prop :=
  ∀ s t : State, IdsRight s → step s = .next t → IdsRight t

/-- Use counts and occupancies stay the counts of the live records, a live record's class stays SET and its compartment
ACTIVE (R8, R9). -/
def Obligations.EveryStepKeepsTheCountsAndTheirUse : Prop :=
  ∀ s t : State, CountsRight s → UseRight s → step s = .next t → CountsRight t ∧ UseRight t

/-- The offer queue stays in order of deadline while the wrap-safe rule compares its deadlines aright, and only the passing
of route seconds takes it out of that premise (R128, R147). -/
def Sys2Proof.Machine.OfferQueueStaysInOrder : Prop :=
  ∀ s t : State, RangesRight s → DeadlinesNear s → step s = .next t →
    (OffersOrdered s → OffersOrdered t) ∧ (s.pending.head? ≠ some .routeClockSecond → DeadlinesNear t)

/-- The offer queue always holds exactly the OFFERED records, each once with its deadline, at most 16, in order of deadline
(R128). -/
def Obligations.EveryStepKeepsTheOfferQueue : Prop :=
  (∀ s t : State, OffersRight s → step s = .next t → OffersRight t) ∧ OfferQueueStaysInOrder

/-- Every record's figures stay in their ranges, its cause agrees with its verdict, and every temperature of a probe, a last
good reading, a snapshot and a peak stays within −400..+500 (R87, R93, Conventions). Those of settings, ceilings in force,
classes and closed records' copies are EveryStepKeepsClassesAndCompartments's. -/
def Obligations.EveryStepKeepsTheRecordsRight : Prop :=
  ∀ s t : State, RecordsRight s → JudgementsRight s → TempsRight s → step s = .next t →
    RecordsRight t ∧ JudgementsRight t ∧ TempsRight t

/-- Every CLOSED record's statement verifies at every state from its close on (R107, R139, R140). -/
def Obligations.EveryStepKeepsClosedStatementsVerifying : Prop :=
  ∀ s t : State, ClosedRight s → step s = .next t → ClosedRight t

/-- Every SET class keeps R23's ranges and order, and every compartment R35's relations; settings, held counts, ceilings,
spans, the scanner and the offer timeout stay within their ranges (sections 3.1 and 4.2, R130), as do a closed record's
copies; and every SET COMPARTMENT with mode OFF in flight carries mode OFF. -/
def Obligations.EveryStepKeepsClassesAndCompartments : Prop :=
  ∀ s t : State, ClassesRight s → CompsRight s → RangesRight s → OffCommandsRight s → ClosedLimitsRight s →
    step s = .next t → ClassesRight t ∧ CompsRight t ∧ RangesRight t ∧ OffCommandsRight t ∧ ClosedLimitsRight t

/-- While a slot is non-FREE its record's verdict and accumulators never fall (R87, R92); a CLOSED record is frozen but for
its statement read mark until its slot is FREE (R4). -/
def Obligations.NothingFallsAndClosedRecordsAreFrozen : Prop :=
  ∀ (i : SlotNo) (r : Record) (s t : State), RecordsRight s → s.slots[i] = some r → step s = .next t →
    (∀ q : Record, t.slots[i] = some q → q.id = r.id ∧ q.cls = r.cls ∧ q.admittedAt = r.admittedAt ∧ NotFallen r q)
      ∧ ∀ f : ClosedFields, r.custody = .closed f →
        t.slots[i] = none ∨ t.slots[i] = some r
          ∨ t.slots[i] = some { r with custody := .closed { f with statementRead := true } }

/-- What a record has been charged changes, blind seconds in a gap pass apart, only by a charge of the accrual pass in flight
whose tag the record does not carry, and it carries that tag from then on (R89). -/
def Sys2Proof.Machine.ChargedOncePerTag : Prop :=
  ∀ (i : SlotNo) (r q : Record) (l : LiveFields) (s t : State), TagsRight s → s.slots[i] = some r → r.live = some l →
    step s = .next t → t.slots[i] = some q →
    (q.warm ≠ r.warm ∨ q.cold ≠ r.cold ∨ q.excursion ≠ r.excursion
      ∨ (q.blind ≠ r.blind ∧ s.exposure.gapEnd = none)) →
    s.exposure.passTag = some s.scanner.tag ∧ l.tag ≠ s.scanner.tag
      ∧ ∃ l' : LiveFields, q.live = some l' ∧ l'.tag = s.scanner.tag

/-- A live record carries the current scan tag, or the one before until the pass has visited its slot (R88), and is charged
at most once with one tag (R89). -/
def Obligations.EveryStepKeepsChargedTags : Prop :=
  (∀ s t : State, TagsRight s → UseRight s → CompsRight s → step s = .next t → TagsRight t) ∧ ChargedOncePerTag

end
end

