-- ==== Sys2Proof/Laws/State.lean ====
section
/-!
SUPPORT. The fields of the state after each named update: one lemma for each update and field.
-/
namespace Sys2Proof.Machine

/-! ### Entries of a vector with one entry replaced -/

@[simp] theorem put_self {α : Type} {n : Nat} (v : Vector α n) (i : Fin n) (x : α) : (put v i x)[i.val] = x := by
  simp [put]

theorem put_get {α : Type} {n : Nat} (v : Vector α n) (i j : Fin n) (x : α) :
    (put v i x)[j] = if i = j then x else v[j] := by
  simp only [put, Fin.getElem_fin, Vector.getElem_set, Fin.ext_iff]

theorem put_getElem {α : Type} {n : Nat} (v : Vector α n) (i j : Fin n) (x : α) :
    (put v i x)[j.val] = if i = j then x else v[j.val] := put_get v i j x

theorem put_ne {α : Type} {n : Nat} (v : Vector α n) {i j : Fin n} (x : α) (h : i ≠ j) : (put v i x)[j] = v[j] := by
  rw [put_get, if_neg h]

/-! ### A port and the other port -/

@[simp] theorem State.setPort_port (s : State) (p : PortId) (x : Port) : (s.setPort p x).port p = x := by
  cases p <;> rfl

theorem State.setPort_port_ne (s : State) {p q : PortId} (x : Port) (h : q ≠ p) : (s.setPort p x).port q = s.port q := by
  cases p <;> cases q <;> first | rfl | exact absurd rfl h

@[simp] theorem State.setPort_setPort (s : State) (p : PortId) (x y : Port) :
    (s.setPort p x).setPort p y = s.setPort p y := by
  cases p <;> rfl

@[simp] theorem State.setPort_self (s : State) (p : PortId) : s.setPort p (s.port p) = s := by
  cases p <;> rfl

@[simp] theorem State.raise_port (s : State) (f : FlagSet) (p : PortId) : (s.raise f).port p = (s.port p).raise f := by
  cases p <;> rfl


/-! ### setSlot -/

@[simp] theorem State.setSlot_power (s : State) (i : SlotNo) (r : Option Record) : (s.setSlot i r).power = s.power :=
  rfl
@[simp] theorem State.setSlot_clock (s : State) (i : SlotNo) (r : Option Record) : (s.setSlot i r).clock = s.clock :=
  rfl
@[simp] theorem State.setSlot_lastSnapshotTime (s : State) (i : SlotNo) (r : Option Record) :
    (s.setSlot i r).lastSnapshotTime = s.lastSnapshotTime :=
  rfl
@[simp] theorem State.setSlot_unitId (s : State) (i : SlotNo) (r : Option Record) : (s.setSlot i r).unitId = s.unitId :=
  rfl
@[simp] theorem State.setSlot_lastStart (s : State) (i : SlotNo) (r : Option Record) :
    (s.setSlot i r).lastStart = s.lastStart :=
  rfl
@[simp] theorem State.setSlot_valid (s : State) (i : SlotNo) (r : Option Record) : (s.setSlot i r).valid = s.valid :=
  rfl
@[simp] theorem State.setSlot_slots (s : State) (i : SlotNo) (r : Option Record) :
    (s.setSlot i r).slots = put s.slots i r :=
  rfl
@[simp] theorem State.setSlot_useCount (s : State) (i : SlotNo) (r : Option Record) :
    (s.setSlot i r).useCount = s.useCount :=
  rfl
@[simp] theorem State.setSlot_occupancy (s : State) (i : SlotNo) (r : Option Record) :
    (s.setSlot i r).occupancy = s.occupancy :=
  rfl
@[simp] theorem State.setSlot_order (s : State) (i : SlotNo) (r : Option Record) : (s.setSlot i r).order = s.order :=
  rfl
@[simp] theorem State.setSlot_engine (s : State) (i : SlotNo) (r : Option Record) : (s.setSlot i r).engine = s.engine :=
  rfl
@[simp] theorem State.setSlot_moveAll (s : State) (i : SlotNo) (r : Option Record) :
    (s.setSlot i r).moveAll = s.moveAll :=
  rfl
@[simp] theorem State.setSlot_classes (s : State) (i : SlotNo) (r : Option Record) :
    (s.setSlot i r).classes = s.classes :=
  rfl
@[simp] theorem State.setSlot_comps (s : State) (i : SlotNo) (r : Option Record) : (s.setSlot i r).comps = s.comps :=
  rfl
@[simp] theorem State.setSlot_doorLines (s : State) (i : SlotNo) (r : Option Record) :
    (s.setSlot i r).doorLines = s.doorLines :=
  rfl
@[simp] theorem State.setSlot_scanner (s : State) (i : SlotNo) (r : Option Record) :
    (s.setSlot i r).scanner = s.scanner :=
  rfl
@[simp] theorem State.setSlot_probes (s : State) (i : SlotNo) (r : Option Record) : (s.setSlot i r).probes = s.probes :=
  rfl
@[simp] theorem State.setSlot_exposure (s : State) (i : SlotNo) (r : Option Record) :
    (s.setSlot i r).exposure = s.exposure :=
  rfl
@[simp] theorem State.setSlot_offers (s : State) (i : SlotNo) (r : Option Record) : (s.setSlot i r).offers = s.offers :=
  rfl
@[simp] theorem State.setSlot_offerTimeout (s : State) (i : SlotNo) (r : Option Record) :
    (s.setSlot i r).offerTimeout = s.offerTimeout :=
  rfl
@[simp] theorem State.setSlot_lapseHeld (s : State) (i : SlotNo) (r : Option Record) :
    (s.setSlot i r).lapseHeld = s.lapseHeld :=
  rfl
@[simp] theorem State.setSlot_lapseWaiting (s : State) (i : SlotNo) (r : Option Record) :
    (s.setSlot i r).lapseWaiting = s.lapseWaiting :=
  rfl
@[simp] theorem State.setSlot_unitPort (s : State) (i : SlotNo) (r : Option Record) :
    (s.setSlot i r).unitPort = s.unitPort :=
  rfl
@[simp] theorem State.setSlot_dockPort (s : State) (i : SlotNo) (r : Option Record) :
    (s.setSlot i r).dockPort = s.dockPort :=
  rfl
@[simp] theorem State.setSlot_pending (s : State) (i : SlotNo) (r : Option Record) :
    (s.setSlot i r).pending = s.pending :=
  rfl
@[simp] theorem State.setSlot_port (s : State) (i : SlotNo) (r : Option Record) (p : PortId) : (s.setSlot i r).port p = s.port p := by
  cases p <;> rfl

/-! ### setComp -/

@[simp] theorem State.setComp_power (s : State) (c : CompNo) (x : Compartment) : (s.setComp c x).power = s.power := rfl
@[simp] theorem State.setComp_clock (s : State) (c : CompNo) (x : Compartment) : (s.setComp c x).clock = s.clock := rfl
@[simp] theorem State.setComp_lastSnapshotTime (s : State) (c : CompNo) (x : Compartment) :
    (s.setComp c x).lastSnapshotTime = s.lastSnapshotTime :=
  rfl
@[simp] theorem State.setComp_unitId (s : State) (c : CompNo) (x : Compartment) : (s.setComp c x).unitId = s.unitId :=
  rfl
@[simp] theorem State.setComp_lastStart (s : State) (c : CompNo) (x : Compartment) :
    (s.setComp c x).lastStart = s.lastStart :=
  rfl
@[simp] theorem State.setComp_valid (s : State) (c : CompNo) (x : Compartment) : (s.setComp c x).valid = s.valid := rfl
@[simp] theorem State.setComp_slots (s : State) (c : CompNo) (x : Compartment) : (s.setComp c x).slots = s.slots := rfl
@[simp] theorem State.setComp_useCount (s : State) (c : CompNo) (x : Compartment) :
    (s.setComp c x).useCount = s.useCount :=
  rfl
@[simp] theorem State.setComp_occupancy (s : State) (c : CompNo) (x : Compartment) :
    (s.setComp c x).occupancy = s.occupancy :=
  rfl
@[simp] theorem State.setComp_order (s : State) (c : CompNo) (x : Compartment) : (s.setComp c x).order = s.order := rfl
@[simp] theorem State.setComp_engine (s : State) (c : CompNo) (x : Compartment) : (s.setComp c x).engine = s.engine :=
  rfl
@[simp] theorem State.setComp_moveAll (s : State) (c : CompNo) (x : Compartment) :
    (s.setComp c x).moveAll = s.moveAll :=
  rfl
@[simp] theorem State.setComp_classes (s : State) (c : CompNo) (x : Compartment) :
    (s.setComp c x).classes = s.classes :=
  rfl
@[simp] theorem State.setComp_comps (s : State) (c : CompNo) (x : Compartment) :
    (s.setComp c x).comps = put s.comps c x :=
  rfl
@[simp] theorem State.setComp_doorLines (s : State) (c : CompNo) (x : Compartment) :
    (s.setComp c x).doorLines = s.doorLines :=
  rfl
@[simp] theorem State.setComp_scanner (s : State) (c : CompNo) (x : Compartment) :
    (s.setComp c x).scanner = s.scanner :=
  rfl
@[simp] theorem State.setComp_probes (s : State) (c : CompNo) (x : Compartment) : (s.setComp c x).probes = s.probes :=
  rfl
@[simp] theorem State.setComp_exposure (s : State) (c : CompNo) (x : Compartment) :
    (s.setComp c x).exposure = s.exposure :=
  rfl
@[simp] theorem State.setComp_offers (s : State) (c : CompNo) (x : Compartment) : (s.setComp c x).offers = s.offers :=
  rfl
@[simp] theorem State.setComp_offerTimeout (s : State) (c : CompNo) (x : Compartment) :
    (s.setComp c x).offerTimeout = s.offerTimeout :=
  rfl
@[simp] theorem State.setComp_lapseHeld (s : State) (c : CompNo) (x : Compartment) :
    (s.setComp c x).lapseHeld = s.lapseHeld :=
  rfl
@[simp] theorem State.setComp_lapseWaiting (s : State) (c : CompNo) (x : Compartment) :
    (s.setComp c x).lapseWaiting = s.lapseWaiting :=
  rfl
@[simp] theorem State.setComp_unitPort (s : State) (c : CompNo) (x : Compartment) :
    (s.setComp c x).unitPort = s.unitPort :=
  rfl
@[simp] theorem State.setComp_dockPort (s : State) (c : CompNo) (x : Compartment) :
    (s.setComp c x).dockPort = s.dockPort :=
  rfl
@[simp] theorem State.setComp_pending (s : State) (c : CompNo) (x : Compartment) :
    (s.setComp c x).pending = s.pending :=
  rfl
@[simp] theorem State.setComp_port (s : State) (c : CompNo) (x : Compartment) (p : PortId) : (s.setComp c x).port p = s.port p := by
  cases p <;> rfl

/-! ### setOffers -/

@[simp] theorem State.setOffers_power (s : State) (q : List Offer) : (s.setOffers q).power = s.power := rfl
@[simp] theorem State.setOffers_clock (s : State) (q : List Offer) : (s.setOffers q).clock = s.clock := rfl
@[simp] theorem State.setOffers_lastSnapshotTime (s : State) (q : List Offer) :
    (s.setOffers q).lastSnapshotTime = s.lastSnapshotTime :=
  rfl
@[simp] theorem State.setOffers_unitId (s : State) (q : List Offer) : (s.setOffers q).unitId = s.unitId := rfl
@[simp] theorem State.setOffers_lastStart (s : State) (q : List Offer) : (s.setOffers q).lastStart = s.lastStart := rfl
@[simp] theorem State.setOffers_valid (s : State) (q : List Offer) : (s.setOffers q).valid = s.valid := rfl
@[simp] theorem State.setOffers_slots (s : State) (q : List Offer) : (s.setOffers q).slots = s.slots := rfl
@[simp] theorem State.setOffers_useCount (s : State) (q : List Offer) : (s.setOffers q).useCount = s.useCount := rfl
@[simp] theorem State.setOffers_occupancy (s : State) (q : List Offer) : (s.setOffers q).occupancy = s.occupancy := rfl
@[simp] theorem State.setOffers_order (s : State) (q : List Offer) : (s.setOffers q).order = s.order := rfl
@[simp] theorem State.setOffers_engine (s : State) (q : List Offer) : (s.setOffers q).engine = s.engine := rfl
@[simp] theorem State.setOffers_moveAll (s : State) (q : List Offer) : (s.setOffers q).moveAll = s.moveAll := rfl
@[simp] theorem State.setOffers_classes (s : State) (q : List Offer) : (s.setOffers q).classes = s.classes := rfl
@[simp] theorem State.setOffers_comps (s : State) (q : List Offer) : (s.setOffers q).comps = s.comps := rfl
@[simp] theorem State.setOffers_doorLines (s : State) (q : List Offer) : (s.setOffers q).doorLines = s.doorLines := rfl
@[simp] theorem State.setOffers_scanner (s : State) (q : List Offer) : (s.setOffers q).scanner = s.scanner := rfl
@[simp] theorem State.setOffers_probes (s : State) (q : List Offer) : (s.setOffers q).probes = s.probes := rfl
@[simp] theorem State.setOffers_exposure (s : State) (q : List Offer) : (s.setOffers q).exposure = s.exposure := rfl
@[simp] theorem State.setOffers_offers (s : State) (q : List Offer) : (s.setOffers q).offers = q := rfl
@[simp] theorem State.setOffers_offerTimeout (s : State) (q : List Offer) :
    (s.setOffers q).offerTimeout = s.offerTimeout :=
  rfl
@[simp] theorem State.setOffers_lapseHeld (s : State) (q : List Offer) : (s.setOffers q).lapseHeld = s.lapseHeld := rfl
@[simp] theorem State.setOffers_lapseWaiting (s : State) (q : List Offer) :
    (s.setOffers q).lapseWaiting = s.lapseWaiting :=
  rfl
@[simp] theorem State.setOffers_unitPort (s : State) (q : List Offer) : (s.setOffers q).unitPort = s.unitPort := rfl
@[simp] theorem State.setOffers_dockPort (s : State) (q : List Offer) : (s.setOffers q).dockPort = s.dockPort := rfl
@[simp] theorem State.setOffers_pending (s : State) (q : List Offer) : (s.setOffers q).pending = s.pending := rfl
@[simp] theorem State.setOffers_port (s : State) (q : List Offer) (p : PortId) : (s.setOffers q).port p = s.port p := by
  cases p <;> rfl

/-! ### retestHead -/

@[simp] theorem State.retestHead_power (s : State) : s.retestHead.power = s.power := rfl
@[simp] theorem State.retestHead_clock (s : State) : s.retestHead.clock = s.clock := rfl
@[simp] theorem State.retestHead_lastSnapshotTime (s : State) : s.retestHead.lastSnapshotTime = s.lastSnapshotTime :=
  rfl
@[simp] theorem State.retestHead_unitId (s : State) : s.retestHead.unitId = s.unitId := rfl
@[simp] theorem State.retestHead_lastStart (s : State) : s.retestHead.lastStart = s.lastStart := rfl
@[simp] theorem State.retestHead_valid (s : State) : s.retestHead.valid = s.valid := rfl
@[simp] theorem State.retestHead_slots (s : State) : s.retestHead.slots = s.slots := rfl
@[simp] theorem State.retestHead_useCount (s : State) : s.retestHead.useCount = s.useCount := rfl
@[simp] theorem State.retestHead_occupancy (s : State) : s.retestHead.occupancy = s.occupancy := rfl
@[simp] theorem State.retestHead_order (s : State) : s.retestHead.order = s.order := rfl
@[simp] theorem State.retestHead_engine (s : State) : s.retestHead.engine = s.engine := rfl
@[simp] theorem State.retestHead_moveAll (s : State) : s.retestHead.moveAll = s.moveAll := rfl
@[simp] theorem State.retestHead_classes (s : State) : s.retestHead.classes = s.classes := rfl
@[simp] theorem State.retestHead_comps (s : State) : s.retestHead.comps = s.comps := rfl
@[simp] theorem State.retestHead_doorLines (s : State) : s.retestHead.doorLines = s.doorLines := rfl
@[simp] theorem State.retestHead_scanner (s : State) : s.retestHead.scanner = s.scanner := rfl
@[simp] theorem State.retestHead_probes (s : State) : s.retestHead.probes = s.probes := rfl
@[simp] theorem State.retestHead_exposure (s : State) : s.retestHead.exposure = s.exposure := rfl
@[simp] theorem State.retestHead_offers (s : State) : s.retestHead.offers = s.offers := rfl
@[simp] theorem State.retestHead_offerTimeout (s : State) : s.retestHead.offerTimeout = s.offerTimeout := rfl
@[simp] theorem State.retestHead_lapseHeld (s : State) : s.retestHead.lapseHeld = s.lapseHeld := rfl
@[simp] theorem State.retestHead_lapseWaiting (s : State) : s.retestHead.lapseWaiting = s.headReached := rfl
@[simp] theorem State.retestHead_unitPort (s : State) : s.retestHead.unitPort = s.unitPort := rfl
@[simp] theorem State.retestHead_dockPort (s : State) : s.retestHead.dockPort = s.dockPort := rfl
@[simp] theorem State.retestHead_pending (s : State) : s.retestHead.pending = s.pending := rfl
@[simp] theorem State.retestHead_port (s : State) (p : PortId) : s.retestHead.port p = s.port p := by
  cases p <;> rfl

/-! ### countIn -/

@[simp] theorem State.countIn_power (s : State) (k : ClassNo) (c : CompNo) : (s.countIn k c).power = s.power := rfl
@[simp] theorem State.countIn_clock (s : State) (k : ClassNo) (c : CompNo) : (s.countIn k c).clock = s.clock := rfl
@[simp] theorem State.countIn_lastSnapshotTime (s : State) (k : ClassNo) (c : CompNo) :
    (s.countIn k c).lastSnapshotTime = s.lastSnapshotTime :=
  rfl
@[simp] theorem State.countIn_unitId (s : State) (k : ClassNo) (c : CompNo) : (s.countIn k c).unitId = s.unitId := rfl
@[simp] theorem State.countIn_lastStart (s : State) (k : ClassNo) (c : CompNo) :
    (s.countIn k c).lastStart = s.lastStart :=
  rfl
@[simp] theorem State.countIn_valid (s : State) (k : ClassNo) (c : CompNo) : (s.countIn k c).valid = s.valid := rfl
@[simp] theorem State.countIn_slots (s : State) (k : ClassNo) (c : CompNo) : (s.countIn k c).slots = s.slots := rfl
@[simp] theorem State.countIn_useCount (s : State) (k : ClassNo) (c : CompNo) :
    (s.countIn k c).useCount = put s.useCount k (s.useCount[k] + 1) :=
  rfl
@[simp] theorem State.countIn_occupancy (s : State) (k : ClassNo) (c : CompNo) :
    (s.countIn k c).occupancy = put s.occupancy c (s.occupancy[c] + 1) :=
  rfl
@[simp] theorem State.countIn_order (s : State) (k : ClassNo) (c : CompNo) : (s.countIn k c).order = s.order := rfl
@[simp] theorem State.countIn_engine (s : State) (k : ClassNo) (c : CompNo) : (s.countIn k c).engine = s.engine := rfl
@[simp] theorem State.countIn_moveAll (s : State) (k : ClassNo) (c : CompNo) : (s.countIn k c).moveAll = s.moveAll :=
  rfl
@[simp] theorem State.countIn_classes (s : State) (k : ClassNo) (c : CompNo) : (s.countIn k c).classes = s.classes :=
  rfl
@[simp] theorem State.countIn_comps (s : State) (k : ClassNo) (c : CompNo) : (s.countIn k c).comps = s.comps := rfl
@[simp] theorem State.countIn_doorLines (s : State) (k : ClassNo) (c : CompNo) :
    (s.countIn k c).doorLines = s.doorLines :=
  rfl
@[simp] theorem State.countIn_scanner (s : State) (k : ClassNo) (c : CompNo) : (s.countIn k c).scanner = s.scanner :=
  rfl
@[simp] theorem State.countIn_probes (s : State) (k : ClassNo) (c : CompNo) : (s.countIn k c).probes = s.probes := rfl
@[simp] theorem State.countIn_exposure (s : State) (k : ClassNo) (c : CompNo) : (s.countIn k c).exposure = s.exposure :=
  rfl
@[simp] theorem State.countIn_offers (s : State) (k : ClassNo) (c : CompNo) : (s.countIn k c).offers = s.offers := rfl
@[simp] theorem State.countIn_offerTimeout (s : State) (k : ClassNo) (c : CompNo) :
    (s.countIn k c).offerTimeout = s.offerTimeout :=
  rfl
@[simp] theorem State.countIn_lapseHeld (s : State) (k : ClassNo) (c : CompNo) :
    (s.countIn k c).lapseHeld = s.lapseHeld :=
  rfl
@[simp] theorem State.countIn_lapseWaiting (s : State) (k : ClassNo) (c : CompNo) :
    (s.countIn k c).lapseWaiting = s.lapseWaiting :=
  rfl
@[simp] theorem State.countIn_unitPort (s : State) (k : ClassNo) (c : CompNo) : (s.countIn k c).unitPort = s.unitPort :=
  rfl
@[simp] theorem State.countIn_dockPort (s : State) (k : ClassNo) (c : CompNo) : (s.countIn k c).dockPort = s.dockPort :=
  rfl
@[simp] theorem State.countIn_pending (s : State) (k : ClassNo) (c : CompNo) : (s.countIn k c).pending = s.pending :=
  rfl
@[simp] theorem State.countIn_port (s : State) (k : ClassNo) (c : CompNo) (p : PortId) : (s.countIn k c).port p = s.port p := by
  cases p <;> rfl

/-! ### countOut -/

@[simp] theorem State.countOut_power (s : State) (k : ClassNo) (c : CompNo) : (s.countOut k c).power = s.power := rfl
@[simp] theorem State.countOut_clock (s : State) (k : ClassNo) (c : CompNo) : (s.countOut k c).clock = s.clock := rfl
@[simp] theorem State.countOut_lastSnapshotTime (s : State) (k : ClassNo) (c : CompNo) :
    (s.countOut k c).lastSnapshotTime = s.lastSnapshotTime :=
  rfl
@[simp] theorem State.countOut_unitId (s : State) (k : ClassNo) (c : CompNo) : (s.countOut k c).unitId = s.unitId := rfl
@[simp] theorem State.countOut_lastStart (s : State) (k : ClassNo) (c : CompNo) :
    (s.countOut k c).lastStart = s.lastStart :=
  rfl
@[simp] theorem State.countOut_valid (s : State) (k : ClassNo) (c : CompNo) : (s.countOut k c).valid = s.valid := rfl
@[simp] theorem State.countOut_slots (s : State) (k : ClassNo) (c : CompNo) : (s.countOut k c).slots = s.slots := rfl
@[simp] theorem State.countOut_useCount (s : State) (k : ClassNo) (c : CompNo) :
    (s.countOut k c).useCount = put s.useCount k (s.useCount[k] - 1) :=
  rfl
@[simp] theorem State.countOut_occupancy (s : State) (k : ClassNo) (c : CompNo) :
    (s.countOut k c).occupancy = put s.occupancy c (s.occupancy[c] - 1) :=
  rfl
@[simp] theorem State.countOut_order (s : State) (k : ClassNo) (c : CompNo) : (s.countOut k c).order = s.order := rfl
@[simp] theorem State.countOut_engine (s : State) (k : ClassNo) (c : CompNo) : (s.countOut k c).engine = s.engine := rfl
@[simp] theorem State.countOut_moveAll (s : State) (k : ClassNo) (c : CompNo) : (s.countOut k c).moveAll = s.moveAll :=
  rfl
@[simp] theorem State.countOut_classes (s : State) (k : ClassNo) (c : CompNo) : (s.countOut k c).classes = s.classes :=
  rfl
@[simp] theorem State.countOut_comps (s : State) (k : ClassNo) (c : CompNo) : (s.countOut k c).comps = s.comps := rfl
@[simp] theorem State.countOut_doorLines (s : State) (k : ClassNo) (c : CompNo) :
    (s.countOut k c).doorLines = s.doorLines :=
  rfl
@[simp] theorem State.countOut_scanner (s : State) (k : ClassNo) (c : CompNo) : (s.countOut k c).scanner = s.scanner :=
  rfl
@[simp] theorem State.countOut_probes (s : State) (k : ClassNo) (c : CompNo) : (s.countOut k c).probes = s.probes := rfl
@[simp] theorem State.countOut_exposure (s : State) (k : ClassNo) (c : CompNo) :
    (s.countOut k c).exposure = s.exposure :=
  rfl
@[simp] theorem State.countOut_offers (s : State) (k : ClassNo) (c : CompNo) : (s.countOut k c).offers = s.offers := rfl
@[simp] theorem State.countOut_offerTimeout (s : State) (k : ClassNo) (c : CompNo) :
    (s.countOut k c).offerTimeout = s.offerTimeout :=
  rfl
@[simp] theorem State.countOut_lapseHeld (s : State) (k : ClassNo) (c : CompNo) :
    (s.countOut k c).lapseHeld = s.lapseHeld :=
  rfl
@[simp] theorem State.countOut_lapseWaiting (s : State) (k : ClassNo) (c : CompNo) :
    (s.countOut k c).lapseWaiting = s.lapseWaiting :=
  rfl
@[simp] theorem State.countOut_unitPort (s : State) (k : ClassNo) (c : CompNo) :
    (s.countOut k c).unitPort = s.unitPort :=
  rfl
@[simp] theorem State.countOut_dockPort (s : State) (k : ClassNo) (c : CompNo) :
    (s.countOut k c).dockPort = s.dockPort :=
  rfl
@[simp] theorem State.countOut_pending (s : State) (k : ClassNo) (c : CompNo) : (s.countOut k c).pending = s.pending :=
  rfl
@[simp] theorem State.countOut_port (s : State) (k : ClassNo) (c : CompNo) (p : PortId) : (s.countOut k c).port p = s.port p := by
  cases p <;> rfl

/-! ### raise -/

@[simp] theorem State.raise_power (s : State) (f : FlagSet) : (s.raise f).power = s.power := rfl
@[simp] theorem State.raise_clock (s : State) (f : FlagSet) : (s.raise f).clock = s.clock := rfl
@[simp] theorem State.raise_lastSnapshotTime (s : State) (f : FlagSet) :
    (s.raise f).lastSnapshotTime = s.lastSnapshotTime :=
  rfl
@[simp] theorem State.raise_unitId (s : State) (f : FlagSet) : (s.raise f).unitId = s.unitId := rfl
@[simp] theorem State.raise_lastStart (s : State) (f : FlagSet) : (s.raise f).lastStart = s.lastStart := rfl
@[simp] theorem State.raise_valid (s : State) (f : FlagSet) : (s.raise f).valid = s.valid := rfl
@[simp] theorem State.raise_slots (s : State) (f : FlagSet) : (s.raise f).slots = s.slots := rfl
@[simp] theorem State.raise_useCount (s : State) (f : FlagSet) : (s.raise f).useCount = s.useCount := rfl
@[simp] theorem State.raise_occupancy (s : State) (f : FlagSet) : (s.raise f).occupancy = s.occupancy := rfl
@[simp] theorem State.raise_order (s : State) (f : FlagSet) : (s.raise f).order = s.order := rfl
@[simp] theorem State.raise_engine (s : State) (f : FlagSet) : (s.raise f).engine = s.engine := rfl
@[simp] theorem State.raise_moveAll (s : State) (f : FlagSet) : (s.raise f).moveAll = s.moveAll := rfl
@[simp] theorem State.raise_classes (s : State) (f : FlagSet) : (s.raise f).classes = s.classes := rfl
@[simp] theorem State.raise_comps (s : State) (f : FlagSet) : (s.raise f).comps = s.comps := rfl
@[simp] theorem State.raise_doorLines (s : State) (f : FlagSet) : (s.raise f).doorLines = s.doorLines := rfl
@[simp] theorem State.raise_scanner (s : State) (f : FlagSet) : (s.raise f).scanner = s.scanner := rfl
@[simp] theorem State.raise_probes (s : State) (f : FlagSet) : (s.raise f).probes = s.probes := rfl
@[simp] theorem State.raise_exposure (s : State) (f : FlagSet) : (s.raise f).exposure = s.exposure := rfl
@[simp] theorem State.raise_offers (s : State) (f : FlagSet) : (s.raise f).offers = s.offers := rfl
@[simp] theorem State.raise_offerTimeout (s : State) (f : FlagSet) : (s.raise f).offerTimeout = s.offerTimeout := rfl
@[simp] theorem State.raise_lapseHeld (s : State) (f : FlagSet) : (s.raise f).lapseHeld = s.lapseHeld := rfl
@[simp] theorem State.raise_lapseWaiting (s : State) (f : FlagSet) : (s.raise f).lapseWaiting = s.lapseWaiting := rfl
@[simp] theorem State.raise_unitPort (s : State) (f : FlagSet) : (s.raise f).unitPort = s.unitPort.raise f := rfl
@[simp] theorem State.raise_dockPort (s : State) (f : FlagSet) : (s.raise f).dockPort = s.dockPort.raise f := rfl
@[simp] theorem State.raise_pending (s : State) (f : FlagSet) : (s.raise f).pending = s.pending := rfl

/-! ### grant -/

@[simp] theorem State.grant_power (s : State) (r : Requester) (w : StepWork) : (s.grant r w).power = s.power := rfl
@[simp] theorem State.grant_clock (s : State) (r : Requester) (w : StepWork) : (s.grant r w).clock = s.clock := rfl
@[simp] theorem State.grant_lastSnapshotTime (s : State) (r : Requester) (w : StepWork) :
    (s.grant r w).lastSnapshotTime = s.lastSnapshotTime :=
  rfl
@[simp] theorem State.grant_unitId (s : State) (r : Requester) (w : StepWork) : (s.grant r w).unitId = s.unitId := rfl
@[simp] theorem State.grant_lastStart (s : State) (r : Requester) (w : StepWork) :
    (s.grant r w).lastStart = s.lastStart :=
  rfl
@[simp] theorem State.grant_valid (s : State) (r : Requester) (w : StepWork) : (s.grant r w).valid = s.valid := rfl
@[simp] theorem State.grant_slots (s : State) (r : Requester) (w : StepWork) : (s.grant r w).slots = s.slots := rfl
@[simp] theorem State.grant_useCount (s : State) (r : Requester) (w : StepWork) : (s.grant r w).useCount = s.useCount :=
  rfl
@[simp] theorem State.grant_occupancy (s : State) (r : Requester) (w : StepWork) :
    (s.grant r w).occupancy = s.occupancy :=
  rfl
@[simp] theorem State.grant_order (s : State) (r : Requester) (w : StepWork) :
    (s.grant r w).order = granted r s.order :=
  rfl
@[simp] theorem State.grant_engine (s : State) (r : Requester) (w : StepWork) :
    (s.grant r w).engine = some { work := w, inputs := s.inputs, discarded := false } :=
  rfl
@[simp] theorem State.grant_moveAll (s : State) (r : Requester) (w : StepWork) : (s.grant r w).moveAll = s.moveAll :=
  rfl
@[simp] theorem State.grant_classes (s : State) (r : Requester) (w : StepWork) : (s.grant r w).classes = s.classes :=
  rfl
@[simp] theorem State.grant_comps (s : State) (r : Requester) (w : StepWork) : (s.grant r w).comps = s.comps := rfl
@[simp] theorem State.grant_doorLines (s : State) (r : Requester) (w : StepWork) :
    (s.grant r w).doorLines = s.doorLines :=
  rfl
@[simp] theorem State.grant_scanner (s : State) (r : Requester) (w : StepWork) : (s.grant r w).scanner = s.scanner :=
  rfl
@[simp] theorem State.grant_probes (s : State) (r : Requester) (w : StepWork) : (s.grant r w).probes = s.probes := rfl
@[simp] theorem State.grant_exposure (s : State) (r : Requester) (w : StepWork) : (s.grant r w).exposure = s.exposure :=
  rfl
@[simp] theorem State.grant_offers (s : State) (r : Requester) (w : StepWork) : (s.grant r w).offers = s.offers := rfl
@[simp] theorem State.grant_offerTimeout (s : State) (r : Requester) (w : StepWork) :
    (s.grant r w).offerTimeout = s.offerTimeout :=
  rfl
@[simp] theorem State.grant_lapseHeld (s : State) (r : Requester) (w : StepWork) :
    (s.grant r w).lapseHeld = s.lapseHeld :=
  rfl
@[simp] theorem State.grant_lapseWaiting (s : State) (r : Requester) (w : StepWork) :
    (s.grant r w).lapseWaiting = s.lapseWaiting :=
  rfl
@[simp] theorem State.grant_unitPort (s : State) (r : Requester) (w : StepWork) : (s.grant r w).unitPort = s.unitPort :=
  rfl
@[simp] theorem State.grant_dockPort (s : State) (r : Requester) (w : StepWork) : (s.grant r w).dockPort = s.dockPort :=
  rfl
@[simp] theorem State.grant_pending (s : State) (r : Requester) (w : StepWork) : (s.grant r w).pending = s.pending :=
  rfl
@[simp] theorem State.grant_port (s : State) (r : Requester) (w : StepWork) (p : PortId) : (s.grant r w).port p = s.port p := by
  cases p <;> rfl

/-! ### freeEngine -/

@[simp] theorem State.freeEngine_power (s : State) : s.freeEngine.power = s.power := rfl
@[simp] theorem State.freeEngine_clock (s : State) : s.freeEngine.clock = s.clock := rfl
@[simp] theorem State.freeEngine_lastSnapshotTime (s : State) : s.freeEngine.lastSnapshotTime = s.lastSnapshotTime :=
  rfl
@[simp] theorem State.freeEngine_unitId (s : State) : s.freeEngine.unitId = s.unitId := rfl
@[simp] theorem State.freeEngine_lastStart (s : State) : s.freeEngine.lastStart = s.lastStart := rfl
@[simp] theorem State.freeEngine_valid (s : State) : s.freeEngine.valid = s.valid := rfl
@[simp] theorem State.freeEngine_slots (s : State) : s.freeEngine.slots = s.slots := rfl
@[simp] theorem State.freeEngine_useCount (s : State) : s.freeEngine.useCount = s.useCount := rfl
@[simp] theorem State.freeEngine_occupancy (s : State) : s.freeEngine.occupancy = s.occupancy := rfl
@[simp] theorem State.freeEngine_order (s : State) : s.freeEngine.order = s.order := rfl
@[simp] theorem State.freeEngine_engine (s : State) : s.freeEngine.engine = none := rfl
@[simp] theorem State.freeEngine_moveAll (s : State) : s.freeEngine.moveAll = s.moveAll := rfl
@[simp] theorem State.freeEngine_classes (s : State) : s.freeEngine.classes = s.classes := rfl
@[simp] theorem State.freeEngine_comps (s : State) : s.freeEngine.comps = s.comps := rfl
@[simp] theorem State.freeEngine_doorLines (s : State) : s.freeEngine.doorLines = s.doorLines := rfl
@[simp] theorem State.freeEngine_scanner (s : State) : s.freeEngine.scanner = s.scanner := rfl
@[simp] theorem State.freeEngine_probes (s : State) : s.freeEngine.probes = s.probes := rfl
@[simp] theorem State.freeEngine_exposure (s : State) : s.freeEngine.exposure = s.exposure := rfl
@[simp] theorem State.freeEngine_offers (s : State) : s.freeEngine.offers = s.offers := rfl
@[simp] theorem State.freeEngine_offerTimeout (s : State) : s.freeEngine.offerTimeout = s.offerTimeout := rfl
@[simp] theorem State.freeEngine_lapseHeld (s : State) : s.freeEngine.lapseHeld = s.lapseHeld := rfl
@[simp] theorem State.freeEngine_lapseWaiting (s : State) : s.freeEngine.lapseWaiting = s.lapseWaiting := rfl
@[simp] theorem State.freeEngine_unitPort (s : State) : s.freeEngine.unitPort = s.unitPort := rfl
@[simp] theorem State.freeEngine_dockPort (s : State) : s.freeEngine.dockPort = s.dockPort := rfl
@[simp] theorem State.freeEngine_pending (s : State) : s.freeEngine.pending = s.pending := rfl
@[simp] theorem State.freeEngine_port (s : State) (p : PortId) : s.freeEngine.port p = s.port p := by
  cases p <;> rfl

/-! ### discardStep -/

@[simp] theorem State.discardStep_power (s : State) : s.discardStep.power = s.power := rfl
@[simp] theorem State.discardStep_clock (s : State) : s.discardStep.clock = s.clock := rfl
@[simp] theorem State.discardStep_lastSnapshotTime (s : State) : s.discardStep.lastSnapshotTime = s.lastSnapshotTime :=
  rfl
@[simp] theorem State.discardStep_unitId (s : State) : s.discardStep.unitId = s.unitId := rfl
@[simp] theorem State.discardStep_lastStart (s : State) : s.discardStep.lastStart = s.lastStart := rfl
@[simp] theorem State.discardStep_valid (s : State) : s.discardStep.valid = s.valid := rfl
@[simp] theorem State.discardStep_slots (s : State) : s.discardStep.slots = s.slots := rfl
@[simp] theorem State.discardStep_useCount (s : State) : s.discardStep.useCount = s.useCount := rfl
@[simp] theorem State.discardStep_occupancy (s : State) : s.discardStep.occupancy = s.occupancy := rfl
@[simp] theorem State.discardStep_order (s : State) : s.discardStep.order = s.order := rfl
@[simp] theorem State.discardStep_engine (s : State) :
    s.discardStep.engine = s.engine.map (fun st => { st with discarded := true }) :=
  rfl
@[simp] theorem State.discardStep_moveAll (s : State) : s.discardStep.moveAll = s.moveAll := rfl
@[simp] theorem State.discardStep_classes (s : State) : s.discardStep.classes = s.classes := rfl
@[simp] theorem State.discardStep_comps (s : State) : s.discardStep.comps = s.comps := rfl
@[simp] theorem State.discardStep_doorLines (s : State) : s.discardStep.doorLines = s.doorLines := rfl
@[simp] theorem State.discardStep_scanner (s : State) : s.discardStep.scanner = s.scanner := rfl
@[simp] theorem State.discardStep_probes (s : State) : s.discardStep.probes = s.probes := rfl
@[simp] theorem State.discardStep_exposure (s : State) : s.discardStep.exposure = s.exposure := rfl
@[simp] theorem State.discardStep_offers (s : State) : s.discardStep.offers = s.offers := rfl
@[simp] theorem State.discardStep_offerTimeout (s : State) : s.discardStep.offerTimeout = s.offerTimeout := rfl
@[simp] theorem State.discardStep_lapseHeld (s : State) : s.discardStep.lapseHeld = s.lapseHeld := rfl
@[simp] theorem State.discardStep_lapseWaiting (s : State) : s.discardStep.lapseWaiting = s.lapseWaiting := rfl
@[simp] theorem State.discardStep_unitPort (s : State) : s.discardStep.unitPort = s.unitPort := rfl
@[simp] theorem State.discardStep_dockPort (s : State) : s.discardStep.dockPort = s.dockPort := rfl
@[simp] theorem State.discardStep_pending (s : State) : s.discardStep.pending = s.pending := rfl
@[simp] theorem State.discardStep_port (s : State) (p : PortId) : s.discardStep.port p = s.port p := by
  cases p <;> rfl

/-! ### setClassTo -/

@[simp] theorem State.setClassTo_power (s : State) (k : ClassNo) (v : Option ClassLimits) :
    (s.setClassTo k v).power = s.power :=
  rfl
@[simp] theorem State.setClassTo_clock (s : State) (k : ClassNo) (v : Option ClassLimits) :
    (s.setClassTo k v).clock = s.clock :=
  rfl
@[simp] theorem State.setClassTo_lastSnapshotTime (s : State) (k : ClassNo) (v : Option ClassLimits) :
    (s.setClassTo k v).lastSnapshotTime = s.lastSnapshotTime :=
  rfl
@[simp] theorem State.setClassTo_unitId (s : State) (k : ClassNo) (v : Option ClassLimits) :
    (s.setClassTo k v).unitId = s.unitId :=
  rfl
@[simp] theorem State.setClassTo_lastStart (s : State) (k : ClassNo) (v : Option ClassLimits) :
    (s.setClassTo k v).lastStart = s.lastStart :=
  rfl
@[simp] theorem State.setClassTo_valid (s : State) (k : ClassNo) (v : Option ClassLimits) :
    (s.setClassTo k v).valid = s.valid :=
  rfl
@[simp] theorem State.setClassTo_slots (s : State) (k : ClassNo) (v : Option ClassLimits) :
    (s.setClassTo k v).slots = s.slots :=
  rfl
@[simp] theorem State.setClassTo_useCount (s : State) (k : ClassNo) (v : Option ClassLimits) :
    (s.setClassTo k v).useCount = s.useCount :=
  rfl
@[simp] theorem State.setClassTo_occupancy (s : State) (k : ClassNo) (v : Option ClassLimits) :
    (s.setClassTo k v).occupancy = s.occupancy :=
  rfl
@[simp] theorem State.setClassTo_order (s : State) (k : ClassNo) (v : Option ClassLimits) :
    (s.setClassTo k v).order = s.order :=
  rfl
@[simp] theorem State.setClassTo_engine (s : State) (k : ClassNo) (v : Option ClassLimits) :
    (s.setClassTo k v).engine = s.engine :=
  rfl
@[simp] theorem State.setClassTo_moveAll (s : State) (k : ClassNo) (v : Option ClassLimits) :
    (s.setClassTo k v).moveAll = s.moveAll :=
  rfl
@[simp] theorem State.setClassTo_classes (s : State) (k : ClassNo) (v : Option ClassLimits) :
    (s.setClassTo k v).classes = put s.classes k v :=
  rfl
@[simp] theorem State.setClassTo_comps (s : State) (k : ClassNo) (v : Option ClassLimits) :
    (s.setClassTo k v).comps = s.comps :=
  rfl
@[simp] theorem State.setClassTo_doorLines (s : State) (k : ClassNo) (v : Option ClassLimits) :
    (s.setClassTo k v).doorLines = s.doorLines :=
  rfl
@[simp] theorem State.setClassTo_scanner (s : State) (k : ClassNo) (v : Option ClassLimits) :
    (s.setClassTo k v).scanner = s.scanner :=
  rfl
@[simp] theorem State.setClassTo_probes (s : State) (k : ClassNo) (v : Option ClassLimits) :
    (s.setClassTo k v).probes = s.probes :=
  rfl
@[simp] theorem State.setClassTo_exposure (s : State) (k : ClassNo) (v : Option ClassLimits) :
    (s.setClassTo k v).exposure = s.exposure :=
  rfl
@[simp] theorem State.setClassTo_offers (s : State) (k : ClassNo) (v : Option ClassLimits) :
    (s.setClassTo k v).offers = s.offers :=
  rfl
@[simp] theorem State.setClassTo_offerTimeout (s : State) (k : ClassNo) (v : Option ClassLimits) :
    (s.setClassTo k v).offerTimeout = s.offerTimeout :=
  rfl
@[simp] theorem State.setClassTo_lapseHeld (s : State) (k : ClassNo) (v : Option ClassLimits) :
    (s.setClassTo k v).lapseHeld = s.lapseHeld :=
  rfl
@[simp] theorem State.setClassTo_lapseWaiting (s : State) (k : ClassNo) (v : Option ClassLimits) :
    (s.setClassTo k v).lapseWaiting = s.lapseWaiting :=
  rfl
@[simp] theorem State.setClassTo_unitPort (s : State) (k : ClassNo) (v : Option ClassLimits) :
    (s.setClassTo k v).unitPort = s.unitPort :=
  rfl
@[simp] theorem State.setClassTo_dockPort (s : State) (k : ClassNo) (v : Option ClassLimits) :
    (s.setClassTo k v).dockPort = s.dockPort :=
  rfl
@[simp] theorem State.setClassTo_pending (s : State) (k : ClassNo) (v : Option ClassLimits) :
    (s.setClassTo k v).pending = s.pending :=
  rfl
@[simp] theorem State.setClassTo_port (s : State) (k : ClassNo) (v : Option ClassLimits) (p : PortId) : (s.setClassTo k v).port p = s.port p := by
  cases p <;> rfl

/-! ### setDoorLine -/

@[simp] theorem State.setDoorLine_power (s : State) (c : CompNo) (b : Bool) : (s.setDoorLine c b).power = s.power := rfl
@[simp] theorem State.setDoorLine_clock (s : State) (c : CompNo) (b : Bool) : (s.setDoorLine c b).clock = s.clock := rfl
@[simp] theorem State.setDoorLine_lastSnapshotTime (s : State) (c : CompNo) (b : Bool) :
    (s.setDoorLine c b).lastSnapshotTime = s.lastSnapshotTime :=
  rfl
@[simp] theorem State.setDoorLine_unitId (s : State) (c : CompNo) (b : Bool) : (s.setDoorLine c b).unitId = s.unitId :=
  rfl
@[simp] theorem State.setDoorLine_lastStart (s : State) (c : CompNo) (b : Bool) :
    (s.setDoorLine c b).lastStart = s.lastStart :=
  rfl
@[simp] theorem State.setDoorLine_valid (s : State) (c : CompNo) (b : Bool) : (s.setDoorLine c b).valid = s.valid := rfl
@[simp] theorem State.setDoorLine_slots (s : State) (c : CompNo) (b : Bool) : (s.setDoorLine c b).slots = s.slots := rfl
@[simp] theorem State.setDoorLine_useCount (s : State) (c : CompNo) (b : Bool) :
    (s.setDoorLine c b).useCount = s.useCount :=
  rfl
@[simp] theorem State.setDoorLine_occupancy (s : State) (c : CompNo) (b : Bool) :
    (s.setDoorLine c b).occupancy = s.occupancy :=
  rfl
@[simp] theorem State.setDoorLine_order (s : State) (c : CompNo) (b : Bool) : (s.setDoorLine c b).order = s.order := rfl
@[simp] theorem State.setDoorLine_engine (s : State) (c : CompNo) (b : Bool) : (s.setDoorLine c b).engine = s.engine :=
  rfl
@[simp] theorem State.setDoorLine_moveAll (s : State) (c : CompNo) (b : Bool) :
    (s.setDoorLine c b).moveAll = s.moveAll :=
  rfl
@[simp] theorem State.setDoorLine_classes (s : State) (c : CompNo) (b : Bool) :
    (s.setDoorLine c b).classes = s.classes :=
  rfl
@[simp] theorem State.setDoorLine_comps (s : State) (c : CompNo) (b : Bool) : (s.setDoorLine c b).comps = s.comps := rfl
@[simp] theorem State.setDoorLine_doorLines (s : State) (c : CompNo) (b : Bool) :
    (s.setDoorLine c b).doorLines = put s.doorLines c b :=
  rfl
@[simp] theorem State.setDoorLine_scanner (s : State) (c : CompNo) (b : Bool) :
    (s.setDoorLine c b).scanner = s.scanner :=
  rfl
@[simp] theorem State.setDoorLine_probes (s : State) (c : CompNo) (b : Bool) : (s.setDoorLine c b).probes = s.probes :=
  rfl
@[simp] theorem State.setDoorLine_exposure (s : State) (c : CompNo) (b : Bool) :
    (s.setDoorLine c b).exposure = s.exposure :=
  rfl
@[simp] theorem State.setDoorLine_offers (s : State) (c : CompNo) (b : Bool) : (s.setDoorLine c b).offers = s.offers :=
  rfl
@[simp] theorem State.setDoorLine_offerTimeout (s : State) (c : CompNo) (b : Bool) :
    (s.setDoorLine c b).offerTimeout = s.offerTimeout :=
  rfl
@[simp] theorem State.setDoorLine_lapseHeld (s : State) (c : CompNo) (b : Bool) :
    (s.setDoorLine c b).lapseHeld = s.lapseHeld :=
  rfl
@[simp] theorem State.setDoorLine_lapseWaiting (s : State) (c : CompNo) (b : Bool) :
    (s.setDoorLine c b).lapseWaiting = s.lapseWaiting :=
  rfl
@[simp] theorem State.setDoorLine_unitPort (s : State) (c : CompNo) (b : Bool) :
    (s.setDoorLine c b).unitPort = s.unitPort :=
  rfl
@[simp] theorem State.setDoorLine_dockPort (s : State) (c : CompNo) (b : Bool) :
    (s.setDoorLine c b).dockPort = s.dockPort :=
  rfl
@[simp] theorem State.setDoorLine_pending (s : State) (c : CompNo) (b : Bool) :
    (s.setDoorLine c b).pending = s.pending :=
  rfl
@[simp] theorem State.setDoorLine_port (s : State) (c : CompNo) (b : Bool) (p : PortId) : (s.setDoorLine c b).port p = s.port p := by
  cases p <;> rfl

/-! ### setScanPeriod -/

@[simp] theorem State.setScanPeriod_power (s : State) (n : Nat) : (s.setScanPeriod n).power = s.power := rfl
@[simp] theorem State.setScanPeriod_clock (s : State) (n : Nat) : (s.setScanPeriod n).clock = s.clock := rfl
@[simp] theorem State.setScanPeriod_lastSnapshotTime (s : State) (n : Nat) :
    (s.setScanPeriod n).lastSnapshotTime = s.lastSnapshotTime :=
  rfl
@[simp] theorem State.setScanPeriod_unitId (s : State) (n : Nat) : (s.setScanPeriod n).unitId = s.unitId := rfl
@[simp] theorem State.setScanPeriod_lastStart (s : State) (n : Nat) : (s.setScanPeriod n).lastStart = s.lastStart := rfl
@[simp] theorem State.setScanPeriod_valid (s : State) (n : Nat) : (s.setScanPeriod n).valid = s.valid := rfl
@[simp] theorem State.setScanPeriod_slots (s : State) (n : Nat) : (s.setScanPeriod n).slots = s.slots := rfl
@[simp] theorem State.setScanPeriod_useCount (s : State) (n : Nat) : (s.setScanPeriod n).useCount = s.useCount := rfl
@[simp] theorem State.setScanPeriod_occupancy (s : State) (n : Nat) : (s.setScanPeriod n).occupancy = s.occupancy := rfl
@[simp] theorem State.setScanPeriod_order (s : State) (n : Nat) : (s.setScanPeriod n).order = s.order := rfl
@[simp] theorem State.setScanPeriod_engine (s : State) (n : Nat) : (s.setScanPeriod n).engine = s.engine := rfl
@[simp] theorem State.setScanPeriod_moveAll (s : State) (n : Nat) : (s.setScanPeriod n).moveAll = s.moveAll := rfl
@[simp] theorem State.setScanPeriod_classes (s : State) (n : Nat) : (s.setScanPeriod n).classes = s.classes := rfl
@[simp] theorem State.setScanPeriod_comps (s : State) (n : Nat) : (s.setScanPeriod n).comps = s.comps := rfl
@[simp] theorem State.setScanPeriod_doorLines (s : State) (n : Nat) : (s.setScanPeriod n).doorLines = s.doorLines := rfl
@[simp] theorem State.setScanPeriod_scanner (s : State) (n : Nat) :
    (s.setScanPeriod n).scanner = { s.scanner with period := n } :=
  rfl
@[simp] theorem State.setScanPeriod_probes (s : State) (n : Nat) : (s.setScanPeriod n).probes = s.probes := rfl
@[simp] theorem State.setScanPeriod_exposure (s : State) (n : Nat) : (s.setScanPeriod n).exposure = s.exposure := rfl
@[simp] theorem State.setScanPeriod_offers (s : State) (n : Nat) : (s.setScanPeriod n).offers = s.offers := rfl
@[simp] theorem State.setScanPeriod_offerTimeout (s : State) (n : Nat) :
    (s.setScanPeriod n).offerTimeout = s.offerTimeout :=
  rfl
@[simp] theorem State.setScanPeriod_lapseHeld (s : State) (n : Nat) : (s.setScanPeriod n).lapseHeld = s.lapseHeld := rfl
@[simp] theorem State.setScanPeriod_lapseWaiting (s : State) (n : Nat) :
    (s.setScanPeriod n).lapseWaiting = s.lapseWaiting :=
  rfl
@[simp] theorem State.setScanPeriod_unitPort (s : State) (n : Nat) : (s.setScanPeriod n).unitPort = s.unitPort := rfl
@[simp] theorem State.setScanPeriod_dockPort (s : State) (n : Nat) : (s.setScanPeriod n).dockPort = s.dockPort := rfl
@[simp] theorem State.setScanPeriod_pending (s : State) (n : Nat) : (s.setScanPeriod n).pending = s.pending := rfl
@[simp] theorem State.setScanPeriod_port (s : State) (n : Nat) (p : PortId) : (s.setScanPeriod n).port p = s.port p := by
  cases p <;> rfl

/-! ### setOfferTimeout -/

@[simp] theorem State.setOfferTimeout_power (s : State) (n : Nat) : (s.setOfferTimeout n).power = s.power := rfl
@[simp] theorem State.setOfferTimeout_clock (s : State) (n : Nat) : (s.setOfferTimeout n).clock = s.clock := rfl
@[simp] theorem State.setOfferTimeout_lastSnapshotTime (s : State) (n : Nat) :
    (s.setOfferTimeout n).lastSnapshotTime = s.lastSnapshotTime :=
  rfl
@[simp] theorem State.setOfferTimeout_unitId (s : State) (n : Nat) : (s.setOfferTimeout n).unitId = s.unitId := rfl
@[simp] theorem State.setOfferTimeout_lastStart (s : State) (n : Nat) : (s.setOfferTimeout n).lastStart = s.lastStart :=
  rfl
@[simp] theorem State.setOfferTimeout_valid (s : State) (n : Nat) : (s.setOfferTimeout n).valid = s.valid := rfl
@[simp] theorem State.setOfferTimeout_slots (s : State) (n : Nat) : (s.setOfferTimeout n).slots = s.slots := rfl
@[simp] theorem State.setOfferTimeout_useCount (s : State) (n : Nat) : (s.setOfferTimeout n).useCount = s.useCount :=
  rfl
@[simp] theorem State.setOfferTimeout_occupancy (s : State) (n : Nat) : (s.setOfferTimeout n).occupancy = s.occupancy :=
  rfl
@[simp] theorem State.setOfferTimeout_order (s : State) (n : Nat) : (s.setOfferTimeout n).order = s.order := rfl
@[simp] theorem State.setOfferTimeout_engine (s : State) (n : Nat) : (s.setOfferTimeout n).engine = s.engine := rfl
@[simp] theorem State.setOfferTimeout_moveAll (s : State) (n : Nat) : (s.setOfferTimeout n).moveAll = s.moveAll := rfl
@[simp] theorem State.setOfferTimeout_classes (s : State) (n : Nat) : (s.setOfferTimeout n).classes = s.classes := rfl
@[simp] theorem State.setOfferTimeout_comps (s : State) (n : Nat) : (s.setOfferTimeout n).comps = s.comps := rfl
@[simp] theorem State.setOfferTimeout_doorLines (s : State) (n : Nat) : (s.setOfferTimeout n).doorLines = s.doorLines :=
  rfl
@[simp] theorem State.setOfferTimeout_scanner (s : State) (n : Nat) : (s.setOfferTimeout n).scanner = s.scanner := rfl
@[simp] theorem State.setOfferTimeout_probes (s : State) (n : Nat) : (s.setOfferTimeout n).probes = s.probes := rfl
@[simp] theorem State.setOfferTimeout_exposure (s : State) (n : Nat) : (s.setOfferTimeout n).exposure = s.exposure :=
  rfl
@[simp] theorem State.setOfferTimeout_offers (s : State) (n : Nat) : (s.setOfferTimeout n).offers = s.offers := rfl
@[simp] theorem State.setOfferTimeout_offerTimeout (s : State) (n : Nat) : (s.setOfferTimeout n).offerTimeout = n := rfl
@[simp] theorem State.setOfferTimeout_lapseHeld (s : State) (n : Nat) : (s.setOfferTimeout n).lapseHeld = s.lapseHeld :=
  rfl
@[simp] theorem State.setOfferTimeout_lapseWaiting (s : State) (n : Nat) :
    (s.setOfferTimeout n).lapseWaiting = s.lapseWaiting :=
  rfl
@[simp] theorem State.setOfferTimeout_unitPort (s : State) (n : Nat) : (s.setOfferTimeout n).unitPort = s.unitPort :=
  rfl
@[simp] theorem State.setOfferTimeout_dockPort (s : State) (n : Nat) : (s.setOfferTimeout n).dockPort = s.dockPort :=
  rfl
@[simp] theorem State.setOfferTimeout_pending (s : State) (n : Nat) : (s.setOfferTimeout n).pending = s.pending := rfl
@[simp] theorem State.setOfferTimeout_port (s : State) (n : Nat) (p : PortId) : (s.setOfferTimeout n).port p = s.port p := by
  cases p <;> rfl

/-! ### setUnitIdTo -/

@[simp] theorem State.setUnitIdTo_power (s : State) (v : Half) : (s.setUnitIdTo v).power = s.power := rfl
@[simp] theorem State.setUnitIdTo_clock (s : State) (v : Half) : (s.setUnitIdTo v).clock = s.clock := rfl
@[simp] theorem State.setUnitIdTo_lastSnapshotTime (s : State) (v : Half) :
    (s.setUnitIdTo v).lastSnapshotTime = s.lastSnapshotTime :=
  rfl
@[simp] theorem State.setUnitIdTo_unitId (s : State) (v : Half) : (s.setUnitIdTo v).unitId = v := rfl
@[simp] theorem State.setUnitIdTo_lastStart (s : State) (v : Half) : (s.setUnitIdTo v).lastStart = s.lastStart := rfl
@[simp] theorem State.setUnitIdTo_valid (s : State) (v : Half) : (s.setUnitIdTo v).valid = s.valid := rfl
@[simp] theorem State.setUnitIdTo_slots (s : State) (v : Half) : (s.setUnitIdTo v).slots = s.slots := rfl
@[simp] theorem State.setUnitIdTo_useCount (s : State) (v : Half) : (s.setUnitIdTo v).useCount = s.useCount := rfl
@[simp] theorem State.setUnitIdTo_occupancy (s : State) (v : Half) : (s.setUnitIdTo v).occupancy = s.occupancy := rfl
@[simp] theorem State.setUnitIdTo_order (s : State) (v : Half) : (s.setUnitIdTo v).order = s.order := rfl
@[simp] theorem State.setUnitIdTo_engine (s : State) (v : Half) : (s.setUnitIdTo v).engine = s.engine := rfl
@[simp] theorem State.setUnitIdTo_moveAll (s : State) (v : Half) : (s.setUnitIdTo v).moveAll = s.moveAll := rfl
@[simp] theorem State.setUnitIdTo_classes (s : State) (v : Half) : (s.setUnitIdTo v).classes = s.classes := rfl
@[simp] theorem State.setUnitIdTo_comps (s : State) (v : Half) : (s.setUnitIdTo v).comps = s.comps := rfl
@[simp] theorem State.setUnitIdTo_doorLines (s : State) (v : Half) : (s.setUnitIdTo v).doorLines = s.doorLines := rfl
@[simp] theorem State.setUnitIdTo_scanner (s : State) (v : Half) : (s.setUnitIdTo v).scanner = s.scanner := rfl
@[simp] theorem State.setUnitIdTo_probes (s : State) (v : Half) : (s.setUnitIdTo v).probes = s.probes := rfl
@[simp] theorem State.setUnitIdTo_exposure (s : State) (v : Half) : (s.setUnitIdTo v).exposure = s.exposure := rfl
@[simp] theorem State.setUnitIdTo_offers (s : State) (v : Half) : (s.setUnitIdTo v).offers = s.offers := rfl
@[simp] theorem State.setUnitIdTo_offerTimeout (s : State) (v : Half) :
    (s.setUnitIdTo v).offerTimeout = s.offerTimeout :=
  rfl
@[simp] theorem State.setUnitIdTo_lapseHeld (s : State) (v : Half) : (s.setUnitIdTo v).lapseHeld = s.lapseHeld := rfl
@[simp] theorem State.setUnitIdTo_lapseWaiting (s : State) (v : Half) :
    (s.setUnitIdTo v).lapseWaiting = s.lapseWaiting :=
  rfl
@[simp] theorem State.setUnitIdTo_unitPort (s : State) (v : Half) : (s.setUnitIdTo v).unitPort = s.unitPort := rfl
@[simp] theorem State.setUnitIdTo_dockPort (s : State) (v : Half) : (s.setUnitIdTo v).dockPort = s.dockPort := rfl
@[simp] theorem State.setUnitIdTo_pending (s : State) (v : Half) : (s.setUnitIdTo v).pending = s.pending := rfl
@[simp] theorem State.setUnitIdTo_port (s : State) (v : Half) (p : PortId) : (s.setUnitIdTo v).port p = s.port p := by
  cases p <;> rfl

/-! ### withPending -/

@[simp] theorem State.withPending_power (s : State) (q : List Instr) : (s.withPending q).power = s.power := rfl
@[simp] theorem State.withPending_clock (s : State) (q : List Instr) : (s.withPending q).clock = s.clock := rfl
@[simp] theorem State.withPending_lastSnapshotTime (s : State) (q : List Instr) :
    (s.withPending q).lastSnapshotTime = s.lastSnapshotTime :=
  rfl
@[simp] theorem State.withPending_unitId (s : State) (q : List Instr) : (s.withPending q).unitId = s.unitId := rfl
@[simp] theorem State.withPending_lastStart (s : State) (q : List Instr) : (s.withPending q).lastStart = s.lastStart :=
  rfl
@[simp] theorem State.withPending_valid (s : State) (q : List Instr) : (s.withPending q).valid = s.valid := rfl
@[simp] theorem State.withPending_slots (s : State) (q : List Instr) : (s.withPending q).slots = s.slots := rfl
@[simp] theorem State.withPending_useCount (s : State) (q : List Instr) : (s.withPending q).useCount = s.useCount := rfl
@[simp] theorem State.withPending_occupancy (s : State) (q : List Instr) : (s.withPending q).occupancy = s.occupancy :=
  rfl
@[simp] theorem State.withPending_order (s : State) (q : List Instr) : (s.withPending q).order = s.order := rfl
@[simp] theorem State.withPending_engine (s : State) (q : List Instr) : (s.withPending q).engine = s.engine := rfl
@[simp] theorem State.withPending_moveAll (s : State) (q : List Instr) : (s.withPending q).moveAll = s.moveAll := rfl
@[simp] theorem State.withPending_classes (s : State) (q : List Instr) : (s.withPending q).classes = s.classes := rfl
@[simp] theorem State.withPending_comps (s : State) (q : List Instr) : (s.withPending q).comps = s.comps := rfl
@[simp] theorem State.withPending_doorLines (s : State) (q : List Instr) : (s.withPending q).doorLines = s.doorLines :=
  rfl
@[simp] theorem State.withPending_scanner (s : State) (q : List Instr) : (s.withPending q).scanner = s.scanner := rfl
@[simp] theorem State.withPending_probes (s : State) (q : List Instr) : (s.withPending q).probes = s.probes := rfl
@[simp] theorem State.withPending_exposure (s : State) (q : List Instr) : (s.withPending q).exposure = s.exposure := rfl
@[simp] theorem State.withPending_offers (s : State) (q : List Instr) : (s.withPending q).offers = s.offers := rfl
@[simp] theorem State.withPending_offerTimeout (s : State) (q : List Instr) :
    (s.withPending q).offerTimeout = s.offerTimeout :=
  rfl
@[simp] theorem State.withPending_lapseHeld (s : State) (q : List Instr) : (s.withPending q).lapseHeld = s.lapseHeld :=
  rfl
@[simp] theorem State.withPending_lapseWaiting (s : State) (q : List Instr) :
    (s.withPending q).lapseWaiting = s.lapseWaiting :=
  rfl
@[simp] theorem State.withPending_unitPort (s : State) (q : List Instr) : (s.withPending q).unitPort = s.unitPort := rfl
@[simp] theorem State.withPending_dockPort (s : State) (q : List Instr) : (s.withPending q).dockPort = s.dockPort := rfl
@[simp] theorem State.withPending_pending (s : State) (q : List Instr) : (s.withPending q).pending = q := rfl
@[simp] theorem State.withPending_port (s : State) (q : List Instr) (p : PortId) : (s.withPending q).port p = s.port p := by
  cases p <;> rfl

/-! ### shiftClock -/

@[simp] theorem State.shiftClock_power (s : State) (v : RouteTime) : (s.shiftClock v).power = s.power := rfl
@[simp] theorem State.shiftClock_clock (s : State) (v : RouteTime) : (s.shiftClock v).clock = v := rfl
@[simp] theorem State.shiftClock_lastSnapshotTime (s : State) (v : RouteTime) :
    (s.shiftClock v).lastSnapshotTime = s.lastSnapshotTime + (v - s.clock) :=
  rfl
@[simp] theorem State.shiftClock_unitId (s : State) (v : RouteTime) : (s.shiftClock v).unitId = s.unitId := rfl
@[simp] theorem State.shiftClock_lastStart (s : State) (v : RouteTime) : (s.shiftClock v).lastStart = s.lastStart := rfl
@[simp] theorem State.shiftClock_valid (s : State) (v : RouteTime) : (s.shiftClock v).valid = s.valid := rfl
@[simp] theorem State.shiftClock_slots (s : State) (v : RouteTime) :
    (s.shiftClock v).slots = shiftNamed (v - s.clock) s.offers s.slots :=
  rfl
@[simp] theorem State.shiftClock_useCount (s : State) (v : RouteTime) : (s.shiftClock v).useCount = s.useCount := rfl
@[simp] theorem State.shiftClock_occupancy (s : State) (v : RouteTime) : (s.shiftClock v).occupancy = s.occupancy := rfl
@[simp] theorem State.shiftClock_order (s : State) (v : RouteTime) : (s.shiftClock v).order = s.order := rfl
@[simp] theorem State.shiftClock_engine (s : State) (v : RouteTime) : (s.shiftClock v).engine = s.engine := rfl
@[simp] theorem State.shiftClock_moveAll (s : State) (v : RouteTime) : (s.shiftClock v).moveAll = s.moveAll := rfl
@[simp] theorem State.shiftClock_classes (s : State) (v : RouteTime) : (s.shiftClock v).classes = s.classes := rfl
@[simp] theorem State.shiftClock_comps (s : State) (v : RouteTime) :
    (s.shiftClock v).comps = s.comps.map (fun x => { x with doorDeadline := x.doorDeadline.map (· + (v - s.clock)) }) :=
  rfl
@[simp] theorem State.shiftClock_doorLines (s : State) (v : RouteTime) : (s.shiftClock v).doorLines = s.doorLines := rfl
@[simp] theorem State.shiftClock_scanner (s : State) (v : RouteTime) :
    (s.shiftClock v).scanner = { s.scanner with nextTick := s.scanner.nextTick.map (· + (v - s.clock)) } :=
  rfl
@[simp] theorem State.shiftClock_probes (s : State) (v : RouteTime) : (s.shiftClock v).probes = s.probes := rfl
@[simp] theorem State.shiftClock_exposure (s : State) (v : RouteTime) :
    (s.shiftClock v).exposure = { s.exposure with gapEnd := s.exposure.gapEnd.map (· + (v - s.clock)) } :=
  rfl
@[simp] theorem State.shiftClock_offers (s : State) (v : RouteTime) :
    (s.shiftClock v).offers = s.offers.map (fun o => { o with deadline := o.deadline + (v - s.clock) }) :=
  rfl
@[simp] theorem State.shiftClock_offerTimeout (s : State) (v : RouteTime) :
    (s.shiftClock v).offerTimeout = s.offerTimeout :=
  rfl
@[simp] theorem State.shiftClock_lapseHeld (s : State) (v : RouteTime) : (s.shiftClock v).lapseHeld = s.lapseHeld := rfl
@[simp] theorem State.shiftClock_lapseWaiting (s : State) (v : RouteTime) :
    (s.shiftClock v).lapseWaiting = s.lapseWaiting :=
  rfl
@[simp] theorem State.shiftClock_unitPort (s : State) (v : RouteTime) : (s.shiftClock v).unitPort = s.unitPort := rfl
@[simp] theorem State.shiftClock_dockPort (s : State) (v : RouteTime) : (s.shiftClock v).dockPort = s.dockPort := rfl
@[simp] theorem State.shiftClock_pending (s : State) (v : RouteTime) : (s.shiftClock v).pending = s.pending := rfl
@[simp] theorem State.shiftClock_port (s : State) (v : RouteTime) (p : PortId) : (s.shiftClock v).port p = s.port p := by
  cases p <;> rfl

/-! ### setPort -/

@[simp] theorem State.setPort_power (s : State) (p : PortId) (x : Port) : (s.setPort p x).power = s.power :=
  by cases p <;> rfl
@[simp] theorem State.setPort_clock (s : State) (p : PortId) (x : Port) : (s.setPort p x).clock = s.clock :=
  by cases p <;> rfl
@[simp] theorem State.setPort_lastSnapshotTime (s : State) (p : PortId) (x : Port) :
    (s.setPort p x).lastSnapshotTime = s.lastSnapshotTime :=
  by cases p <;> rfl
@[simp] theorem State.setPort_unitId (s : State) (p : PortId) (x : Port) : (s.setPort p x).unitId = s.unitId :=
  by cases p <;> rfl
@[simp] theorem State.setPort_lastStart (s : State) (p : PortId) (x : Port) : (s.setPort p x).lastStart = s.lastStart :=
  by cases p <;> rfl
@[simp] theorem State.setPort_valid (s : State) (p : PortId) (x : Port) : (s.setPort p x).valid = s.valid :=
  by cases p <;> rfl
@[simp] theorem State.setPort_slots (s : State) (p : PortId) (x : Port) : (s.setPort p x).slots = s.slots :=
  by cases p <;> rfl
@[simp] theorem State.setPort_useCount (s : State) (p : PortId) (x : Port) : (s.setPort p x).useCount = s.useCount :=
  by cases p <;> rfl
@[simp] theorem State.setPort_occupancy (s : State) (p : PortId) (x : Port) : (s.setPort p x).occupancy = s.occupancy :=
  by cases p <;> rfl
@[simp] theorem State.setPort_order (s : State) (p : PortId) (x : Port) : (s.setPort p x).order = s.order :=
  by cases p <;> rfl
@[simp] theorem State.setPort_engine (s : State) (p : PortId) (x : Port) : (s.setPort p x).engine = s.engine :=
  by cases p <;> rfl
@[simp] theorem State.setPort_moveAll (s : State) (p : PortId) (x : Port) : (s.setPort p x).moveAll = s.moveAll :=
  by cases p <;> rfl
@[simp] theorem State.setPort_classes (s : State) (p : PortId) (x : Port) : (s.setPort p x).classes = s.classes :=
  by cases p <;> rfl
@[simp] theorem State.setPort_comps (s : State) (p : PortId) (x : Port) : (s.setPort p x).comps = s.comps :=
  by cases p <;> rfl
@[simp] theorem State.setPort_doorLines (s : State) (p : PortId) (x : Port) : (s.setPort p x).doorLines = s.doorLines :=
  by cases p <;> rfl
@[simp] theorem State.setPort_scanner (s : State) (p : PortId) (x : Port) : (s.setPort p x).scanner = s.scanner :=
  by cases p <;> rfl
@[simp] theorem State.setPort_probes (s : State) (p : PortId) (x : Port) : (s.setPort p x).probes = s.probes :=
  by cases p <;> rfl
@[simp] theorem State.setPort_exposure (s : State) (p : PortId) (x : Port) : (s.setPort p x).exposure = s.exposure :=
  by cases p <;> rfl
@[simp] theorem State.setPort_offers (s : State) (p : PortId) (x : Port) : (s.setPort p x).offers = s.offers :=
  by cases p <;> rfl
@[simp] theorem State.setPort_offerTimeout (s : State) (p : PortId) (x : Port) :
    (s.setPort p x).offerTimeout = s.offerTimeout :=
  by cases p <;> rfl
@[simp] theorem State.setPort_lapseHeld (s : State) (p : PortId) (x : Port) : (s.setPort p x).lapseHeld = s.lapseHeld :=
  by cases p <;> rfl
@[simp] theorem State.setPort_lapseWaiting (s : State) (p : PortId) (x : Port) :
    (s.setPort p x).lapseWaiting = s.lapseWaiting :=
  by cases p <;> rfl
@[simp] theorem State.setPort_pending (s : State) (p : PortId) (x : Port) : (s.setPort p x).pending = s.pending :=
  by cases p <;> rfl

/-! ### setPhase -/

@[simp] theorem State.setPhase_power (s : State) (p : PortId) (ph : PortPhase) : (s.setPhase p ph).power = s.power :=
  by cases p <;> rfl
@[simp] theorem State.setPhase_clock (s : State) (p : PortId) (ph : PortPhase) : (s.setPhase p ph).clock = s.clock :=
  by cases p <;> rfl
@[simp] theorem State.setPhase_lastSnapshotTime (s : State) (p : PortId) (ph : PortPhase) :
    (s.setPhase p ph).lastSnapshotTime = s.lastSnapshotTime :=
  by cases p <;> rfl
@[simp] theorem State.setPhase_unitId (s : State) (p : PortId) (ph : PortPhase) : (s.setPhase p ph).unitId = s.unitId :=
  by cases p <;> rfl
@[simp] theorem State.setPhase_lastStart (s : State) (p : PortId) (ph : PortPhase) :
    (s.setPhase p ph).lastStart = s.lastStart :=
  by cases p <;> rfl
@[simp] theorem State.setPhase_valid (s : State) (p : PortId) (ph : PortPhase) : (s.setPhase p ph).valid = s.valid :=
  by cases p <;> rfl
@[simp] theorem State.setPhase_slots (s : State) (p : PortId) (ph : PortPhase) : (s.setPhase p ph).slots = s.slots :=
  by cases p <;> rfl
@[simp] theorem State.setPhase_useCount (s : State) (p : PortId) (ph : PortPhase) :
    (s.setPhase p ph).useCount = s.useCount :=
  by cases p <;> rfl
@[simp] theorem State.setPhase_occupancy (s : State) (p : PortId) (ph : PortPhase) :
    (s.setPhase p ph).occupancy = s.occupancy :=
  by cases p <;> rfl
@[simp] theorem State.setPhase_order (s : State) (p : PortId) (ph : PortPhase) : (s.setPhase p ph).order = s.order :=
  by cases p <;> rfl
@[simp] theorem State.setPhase_engine (s : State) (p : PortId) (ph : PortPhase) : (s.setPhase p ph).engine = s.engine :=
  by cases p <;> rfl
@[simp] theorem State.setPhase_moveAll (s : State) (p : PortId) (ph : PortPhase) :
    (s.setPhase p ph).moveAll = s.moveAll :=
  by cases p <;> rfl
@[simp] theorem State.setPhase_classes (s : State) (p : PortId) (ph : PortPhase) :
    (s.setPhase p ph).classes = s.classes :=
  by cases p <;> rfl
@[simp] theorem State.setPhase_comps (s : State) (p : PortId) (ph : PortPhase) : (s.setPhase p ph).comps = s.comps :=
  by cases p <;> rfl
@[simp] theorem State.setPhase_doorLines (s : State) (p : PortId) (ph : PortPhase) :
    (s.setPhase p ph).doorLines = s.doorLines :=
  by cases p <;> rfl
@[simp] theorem State.setPhase_scanner (s : State) (p : PortId) (ph : PortPhase) :
    (s.setPhase p ph).scanner = s.scanner :=
  by cases p <;> rfl
@[simp] theorem State.setPhase_probes (s : State) (p : PortId) (ph : PortPhase) : (s.setPhase p ph).probes = s.probes :=
  by cases p <;> rfl
@[simp] theorem State.setPhase_exposure (s : State) (p : PortId) (ph : PortPhase) :
    (s.setPhase p ph).exposure = s.exposure :=
  by cases p <;> rfl
@[simp] theorem State.setPhase_offers (s : State) (p : PortId) (ph : PortPhase) : (s.setPhase p ph).offers = s.offers :=
  by cases p <;> rfl
@[simp] theorem State.setPhase_offerTimeout (s : State) (p : PortId) (ph : PortPhase) :
    (s.setPhase p ph).offerTimeout = s.offerTimeout :=
  by cases p <;> rfl
@[simp] theorem State.setPhase_lapseHeld (s : State) (p : PortId) (ph : PortPhase) :
    (s.setPhase p ph).lapseHeld = s.lapseHeld :=
  by cases p <;> rfl
@[simp] theorem State.setPhase_lapseWaiting (s : State) (p : PortId) (ph : PortPhase) :
    (s.setPhase p ph).lapseWaiting = s.lapseWaiting :=
  by cases p <;> rfl
@[simp] theorem State.setPhase_pending (s : State) (p : PortId) (ph : PortPhase) :
    (s.setPhase p ph).pending = s.pending :=
  by cases p <;> rfl

/-! ### place -/

@[simp] theorem State.place_power (s : State) (p : PortId) (r : Result) : (s.place p r).power = s.power :=
  by cases p <;> rfl
@[simp] theorem State.place_clock (s : State) (p : PortId) (r : Result) : (s.place p r).clock = s.clock :=
  by cases p <;> rfl
@[simp] theorem State.place_lastSnapshotTime (s : State) (p : PortId) (r : Result) :
    (s.place p r).lastSnapshotTime = s.lastSnapshotTime :=
  by cases p <;> rfl
@[simp] theorem State.place_unitId (s : State) (p : PortId) (r : Result) : (s.place p r).unitId = s.unitId :=
  by cases p <;> rfl
@[simp] theorem State.place_lastStart (s : State) (p : PortId) (r : Result) : (s.place p r).lastStart = s.lastStart :=
  by cases p <;> rfl
@[simp] theorem State.place_valid (s : State) (p : PortId) (r : Result) : (s.place p r).valid = s.valid :=
  by cases p <;> rfl
@[simp] theorem State.place_slots (s : State) (p : PortId) (r : Result) : (s.place p r).slots = s.slots :=
  by cases p <;> rfl
@[simp] theorem State.place_useCount (s : State) (p : PortId) (r : Result) : (s.place p r).useCount = s.useCount :=
  by cases p <;> rfl
@[simp] theorem State.place_occupancy (s : State) (p : PortId) (r : Result) : (s.place p r).occupancy = s.occupancy :=
  by cases p <;> rfl
@[simp] theorem State.place_order (s : State) (p : PortId) (r : Result) : (s.place p r).order = s.order :=
  by cases p <;> rfl
@[simp] theorem State.place_engine (s : State) (p : PortId) (r : Result) : (s.place p r).engine = s.engine :=
  by cases p <;> rfl
@[simp] theorem State.place_moveAll (s : State) (p : PortId) (r : Result) : (s.place p r).moveAll = s.moveAll :=
  by cases p <;> rfl
@[simp] theorem State.place_classes (s : State) (p : PortId) (r : Result) : (s.place p r).classes = s.classes :=
  by cases p <;> rfl
@[simp] theorem State.place_comps (s : State) (p : PortId) (r : Result) : (s.place p r).comps = s.comps :=
  by cases p <;> rfl
@[simp] theorem State.place_doorLines (s : State) (p : PortId) (r : Result) : (s.place p r).doorLines = s.doorLines :=
  by cases p <;> rfl
@[simp] theorem State.place_scanner (s : State) (p : PortId) (r : Result) : (s.place p r).scanner = s.scanner :=
  by cases p <;> rfl
@[simp] theorem State.place_probes (s : State) (p : PortId) (r : Result) : (s.place p r).probes = s.probes :=
  by cases p <;> rfl
@[simp] theorem State.place_exposure (s : State) (p : PortId) (r : Result) : (s.place p r).exposure = s.exposure :=
  by cases p <;> rfl
@[simp] theorem State.place_offers (s : State) (p : PortId) (r : Result) : (s.place p r).offers = s.offers :=
  by cases p <;> rfl
@[simp] theorem State.place_offerTimeout (s : State) (p : PortId) (r : Result) :
    (s.place p r).offerTimeout = s.offerTimeout :=
  by cases p <;> rfl
@[simp] theorem State.place_lapseHeld (s : State) (p : PortId) (r : Result) : (s.place p r).lapseHeld = s.lapseHeld :=
  by cases p <;> rfl
@[simp] theorem State.place_lapseWaiting (s : State) (p : PortId) (r : Result) :
    (s.place p r).lapseWaiting = s.lapseWaiting :=
  by cases p <;> rfl
@[simp] theorem State.place_pending (s : State) (p : PortId) (r : Result) : (s.place p r).pending = s.pending :=
  by cases p <;> rfl

/-! ### clearWalk -/

@[simp] theorem State.clearWalk_power (s : State) (p : PortId) : (s.clearWalk p).power = s.power := by cases p <;> rfl
@[simp] theorem State.clearWalk_clock (s : State) (p : PortId) : (s.clearWalk p).clock = s.clock := by cases p <;> rfl
@[simp] theorem State.clearWalk_lastSnapshotTime (s : State) (p : PortId) :
    (s.clearWalk p).lastSnapshotTime = s.lastSnapshotTime :=
  by cases p <;> rfl
@[simp] theorem State.clearWalk_unitId (s : State) (p : PortId) : (s.clearWalk p).unitId = s.unitId :=
  by cases p <;> rfl
@[simp] theorem State.clearWalk_lastStart (s : State) (p : PortId) : (s.clearWalk p).lastStart = s.lastStart :=
  by cases p <;> rfl
@[simp] theorem State.clearWalk_valid (s : State) (p : PortId) : (s.clearWalk p).valid = s.valid := by cases p <;> rfl
@[simp] theorem State.clearWalk_slots (s : State) (p : PortId) : (s.clearWalk p).slots = s.slots := by cases p <;> rfl
@[simp] theorem State.clearWalk_useCount (s : State) (p : PortId) : (s.clearWalk p).useCount = s.useCount :=
  by cases p <;> rfl
@[simp] theorem State.clearWalk_occupancy (s : State) (p : PortId) : (s.clearWalk p).occupancy = s.occupancy :=
  by cases p <;> rfl
@[simp] theorem State.clearWalk_order (s : State) (p : PortId) : (s.clearWalk p).order = s.order := by cases p <;> rfl
@[simp] theorem State.clearWalk_engine (s : State) (p : PortId) : (s.clearWalk p).engine = s.engine :=
  by cases p <;> rfl
@[simp] theorem State.clearWalk_moveAll (s : State) (p : PortId) : (s.clearWalk p).moveAll = s.moveAll :=
  by cases p <;> rfl
@[simp] theorem State.clearWalk_classes (s : State) (p : PortId) : (s.clearWalk p).classes = s.classes :=
  by cases p <;> rfl
@[simp] theorem State.clearWalk_comps (s : State) (p : PortId) : (s.clearWalk p).comps = s.comps := by cases p <;> rfl
@[simp] theorem State.clearWalk_doorLines (s : State) (p : PortId) : (s.clearWalk p).doorLines = s.doorLines :=
  by cases p <;> rfl
@[simp] theorem State.clearWalk_scanner (s : State) (p : PortId) : (s.clearWalk p).scanner = s.scanner :=
  by cases p <;> rfl
@[simp] theorem State.clearWalk_probes (s : State) (p : PortId) : (s.clearWalk p).probes = s.probes :=
  by cases p <;> rfl
@[simp] theorem State.clearWalk_exposure (s : State) (p : PortId) : (s.clearWalk p).exposure = s.exposure :=
  by cases p <;> rfl
@[simp] theorem State.clearWalk_offers (s : State) (p : PortId) : (s.clearWalk p).offers = s.offers :=
  by cases p <;> rfl
@[simp] theorem State.clearWalk_offerTimeout (s : State) (p : PortId) : (s.clearWalk p).offerTimeout = s.offerTimeout :=
  by cases p <;> rfl
@[simp] theorem State.clearWalk_lapseHeld (s : State) (p : PortId) : (s.clearWalk p).lapseHeld = s.lapseHeld :=
  by cases p <;> rfl
@[simp] theorem State.clearWalk_lapseWaiting (s : State) (p : PortId) : (s.clearWalk p).lapseWaiting = s.lapseWaiting :=
  by cases p <;> rfl
@[simp] theorem State.clearWalk_pending (s : State) (p : PortId) : (s.clearWalk p).pending = s.pending :=
  by cases p <;> rfl

/-! ### endFrame -/

@[simp] theorem State.endFrame_power (s : State) (p : PortId) : (s.endFrame p).power = s.power := by cases p <;> rfl
@[simp] theorem State.endFrame_clock (s : State) (p : PortId) : (s.endFrame p).clock = s.clock := by cases p <;> rfl
@[simp] theorem State.endFrame_lastSnapshotTime (s : State) (p : PortId) :
    (s.endFrame p).lastSnapshotTime = s.lastSnapshotTime :=
  by cases p <;> rfl
@[simp] theorem State.endFrame_unitId (s : State) (p : PortId) : (s.endFrame p).unitId = s.unitId := by cases p <;> rfl
@[simp] theorem State.endFrame_lastStart (s : State) (p : PortId) : (s.endFrame p).lastStart = s.lastStart :=
  by cases p <;> rfl
@[simp] theorem State.endFrame_valid (s : State) (p : PortId) : (s.endFrame p).valid = s.valid := by cases p <;> rfl
@[simp] theorem State.endFrame_slots (s : State) (p : PortId) : (s.endFrame p).slots = s.slots := by cases p <;> rfl
@[simp] theorem State.endFrame_useCount (s : State) (p : PortId) : (s.endFrame p).useCount = s.useCount :=
  by cases p <;> rfl
@[simp] theorem State.endFrame_occupancy (s : State) (p : PortId) : (s.endFrame p).occupancy = s.occupancy :=
  by cases p <;> rfl
@[simp] theorem State.endFrame_order (s : State) (p : PortId) : (s.endFrame p).order = s.order := by cases p <;> rfl
@[simp] theorem State.endFrame_engine (s : State) (p : PortId) : (s.endFrame p).engine = s.engine := by cases p <;> rfl
@[simp] theorem State.endFrame_moveAll (s : State) (p : PortId) : (s.endFrame p).moveAll = s.moveAll :=
  by cases p <;> rfl
@[simp] theorem State.endFrame_classes (s : State) (p : PortId) : (s.endFrame p).classes = s.classes :=
  by cases p <;> rfl
@[simp] theorem State.endFrame_comps (s : State) (p : PortId) : (s.endFrame p).comps = s.comps := by cases p <;> rfl
@[simp] theorem State.endFrame_doorLines (s : State) (p : PortId) : (s.endFrame p).doorLines = s.doorLines :=
  by cases p <;> rfl
@[simp] theorem State.endFrame_scanner (s : State) (p : PortId) : (s.endFrame p).scanner = s.scanner :=
  by cases p <;> rfl
@[simp] theorem State.endFrame_probes (s : State) (p : PortId) : (s.endFrame p).probes = s.probes := by cases p <;> rfl
@[simp] theorem State.endFrame_exposure (s : State) (p : PortId) : (s.endFrame p).exposure = s.exposure :=
  by cases p <;> rfl
@[simp] theorem State.endFrame_offers (s : State) (p : PortId) : (s.endFrame p).offers = s.offers := by cases p <;> rfl
@[simp] theorem State.endFrame_offerTimeout (s : State) (p : PortId) : (s.endFrame p).offerTimeout = s.offerTimeout :=
  by cases p <;> rfl
@[simp] theorem State.endFrame_lapseHeld (s : State) (p : PortId) : (s.endFrame p).lapseHeld = s.lapseHeld :=
  by cases p <;> rfl
@[simp] theorem State.endFrame_lapseWaiting (s : State) (p : PortId) : (s.endFrame p).lapseWaiting = s.lapseWaiting :=
  by cases p <;> rfl
@[simp] theorem State.endFrame_pending (s : State) (p : PortId) : (s.endFrame p).pending = s.pending :=
  by cases p <;> rfl

/-! ### recordRefusal -/

@[simp] theorem State.recordRefusal_power (s : State) (p : PortId) (c : RefusalCode) (b : Byte) (n : Nat) :
    (s.recordRefusal p c b n).power = s.power :=
  by cases p <;> rfl
@[simp] theorem State.recordRefusal_clock (s : State) (p : PortId) (c : RefusalCode) (b : Byte) (n : Nat) :
    (s.recordRefusal p c b n).clock = s.clock :=
  by cases p <;> rfl
@[simp] theorem State.recordRefusal_lastSnapshotTime (s : State) (p : PortId) (c : RefusalCode) (b : Byte) (n : Nat) :
    (s.recordRefusal p c b n).lastSnapshotTime = s.lastSnapshotTime :=
  by cases p <;> rfl
@[simp] theorem State.recordRefusal_unitId (s : State) (p : PortId) (c : RefusalCode) (b : Byte) (n : Nat) :
    (s.recordRefusal p c b n).unitId = s.unitId :=
  by cases p <;> rfl
@[simp] theorem State.recordRefusal_lastStart (s : State) (p : PortId) (c : RefusalCode) (b : Byte) (n : Nat) :
    (s.recordRefusal p c b n).lastStart = s.lastStart :=
  by cases p <;> rfl
@[simp] theorem State.recordRefusal_valid (s : State) (p : PortId) (c : RefusalCode) (b : Byte) (n : Nat) :
    (s.recordRefusal p c b n).valid = s.valid :=
  by cases p <;> rfl
@[simp] theorem State.recordRefusal_slots (s : State) (p : PortId) (c : RefusalCode) (b : Byte) (n : Nat) :
    (s.recordRefusal p c b n).slots = s.slots :=
  by cases p <;> rfl
@[simp] theorem State.recordRefusal_useCount (s : State) (p : PortId) (c : RefusalCode) (b : Byte) (n : Nat) :
    (s.recordRefusal p c b n).useCount = s.useCount :=
  by cases p <;> rfl
@[simp] theorem State.recordRefusal_occupancy (s : State) (p : PortId) (c : RefusalCode) (b : Byte) (n : Nat) :
    (s.recordRefusal p c b n).occupancy = s.occupancy :=
  by cases p <;> rfl
@[simp] theorem State.recordRefusal_order (s : State) (p : PortId) (c : RefusalCode) (b : Byte) (n : Nat) :
    (s.recordRefusal p c b n).order = s.order :=
  by cases p <;> rfl
@[simp] theorem State.recordRefusal_engine (s : State) (p : PortId) (c : RefusalCode) (b : Byte) (n : Nat) :
    (s.recordRefusal p c b n).engine = s.engine :=
  by cases p <;> rfl
@[simp] theorem State.recordRefusal_moveAll (s : State) (p : PortId) (c : RefusalCode) (b : Byte) (n : Nat) :
    (s.recordRefusal p c b n).moveAll = s.moveAll :=
  by cases p <;> rfl
@[simp] theorem State.recordRefusal_classes (s : State) (p : PortId) (c : RefusalCode) (b : Byte) (n : Nat) :
    (s.recordRefusal p c b n).classes = s.classes :=
  by cases p <;> rfl
@[simp] theorem State.recordRefusal_comps (s : State) (p : PortId) (c : RefusalCode) (b : Byte) (n : Nat) :
    (s.recordRefusal p c b n).comps = s.comps :=
  by cases p <;> rfl
@[simp] theorem State.recordRefusal_doorLines (s : State) (p : PortId) (c : RefusalCode) (b : Byte) (n : Nat) :
    (s.recordRefusal p c b n).doorLines = s.doorLines :=
  by cases p <;> rfl
@[simp] theorem State.recordRefusal_scanner (s : State) (p : PortId) (c : RefusalCode) (b : Byte) (n : Nat) :
    (s.recordRefusal p c b n).scanner = s.scanner :=
  by cases p <;> rfl
@[simp] theorem State.recordRefusal_probes (s : State) (p : PortId) (c : RefusalCode) (b : Byte) (n : Nat) :
    (s.recordRefusal p c b n).probes = s.probes :=
  by cases p <;> rfl
@[simp] theorem State.recordRefusal_exposure (s : State) (p : PortId) (c : RefusalCode) (b : Byte) (n : Nat) :
    (s.recordRefusal p c b n).exposure = s.exposure :=
  by cases p <;> rfl
@[simp] theorem State.recordRefusal_offers (s : State) (p : PortId) (c : RefusalCode) (b : Byte) (n : Nat) :
    (s.recordRefusal p c b n).offers = s.offers :=
  by cases p <;> rfl
@[simp] theorem State.recordRefusal_offerTimeout (s : State) (p : PortId) (c : RefusalCode) (b : Byte) (n : Nat) :
    (s.recordRefusal p c b n).offerTimeout = s.offerTimeout :=
  by cases p <;> rfl
@[simp] theorem State.recordRefusal_lapseHeld (s : State) (p : PortId) (c : RefusalCode) (b : Byte) (n : Nat) :
    (s.recordRefusal p c b n).lapseHeld = s.lapseHeld :=
  by cases p <;> rfl
@[simp] theorem State.recordRefusal_lapseWaiting (s : State) (p : PortId) (c : RefusalCode) (b : Byte) (n : Nat) :
    (s.recordRefusal p c b n).lapseWaiting = s.lapseWaiting :=
  by cases p <;> rfl
@[simp] theorem State.recordRefusal_pending (s : State) (p : PortId) (c : RefusalCode) (b : Byte) (n : Nat) :
    (s.recordRefusal p c b n).pending = s.pending :=
  by cases p <;> rfl

/-! ### open -/

@[simp] theorem State.open_power (s : State) (p : PortId) (b : Byte) (c : Capture) (l : List Byte) :
    (s.open p b c l).power = s.power :=
  by cases p <;> rfl
@[simp] theorem State.open_clock (s : State) (p : PortId) (b : Byte) (c : Capture) (l : List Byte) :
    (s.open p b c l).clock = s.clock :=
  by cases p <;> rfl
@[simp] theorem State.open_lastSnapshotTime (s : State) (p : PortId) (b : Byte) (c : Capture) (l : List Byte) :
    (s.open p b c l).lastSnapshotTime = s.lastSnapshotTime :=
  by cases p <;> rfl
@[simp] theorem State.open_unitId (s : State) (p : PortId) (b : Byte) (c : Capture) (l : List Byte) :
    (s.open p b c l).unitId = s.unitId :=
  by cases p <;> rfl
@[simp] theorem State.open_lastStart (s : State) (p : PortId) (b : Byte) (c : Capture) (l : List Byte) :
    (s.open p b c l).lastStart = s.lastStart :=
  by cases p <;> rfl
@[simp] theorem State.open_valid (s : State) (p : PortId) (b : Byte) (c : Capture) (l : List Byte) :
    (s.open p b c l).valid = s.valid :=
  by cases p <;> rfl
@[simp] theorem State.open_slots (s : State) (p : PortId) (b : Byte) (c : Capture) (l : List Byte) :
    (s.open p b c l).slots = s.slots :=
  by cases p <;> rfl
@[simp] theorem State.open_useCount (s : State) (p : PortId) (b : Byte) (c : Capture) (l : List Byte) :
    (s.open p b c l).useCount = s.useCount :=
  by cases p <;> rfl
@[simp] theorem State.open_occupancy (s : State) (p : PortId) (b : Byte) (c : Capture) (l : List Byte) :
    (s.open p b c l).occupancy = s.occupancy :=
  by cases p <;> rfl
@[simp] theorem State.open_order (s : State) (p : PortId) (b : Byte) (c : Capture) (l : List Byte) :
    (s.open p b c l).order = s.order :=
  by cases p <;> rfl
@[simp] theorem State.open_engine (s : State) (p : PortId) (b : Byte) (c : Capture) (l : List Byte) :
    (s.open p b c l).engine = s.engine :=
  by cases p <;> rfl
@[simp] theorem State.open_moveAll (s : State) (p : PortId) (b : Byte) (c : Capture) (l : List Byte) :
    (s.open p b c l).moveAll = s.moveAll :=
  by cases p <;> rfl
@[simp] theorem State.open_classes (s : State) (p : PortId) (b : Byte) (c : Capture) (l : List Byte) :
    (s.open p b c l).classes = s.classes :=
  by cases p <;> rfl
@[simp] theorem State.open_comps (s : State) (p : PortId) (b : Byte) (c : Capture) (l : List Byte) :
    (s.open p b c l).comps = s.comps :=
  by cases p <;> rfl
@[simp] theorem State.open_doorLines (s : State) (p : PortId) (b : Byte) (c : Capture) (l : List Byte) :
    (s.open p b c l).doorLines = s.doorLines :=
  by cases p <;> rfl
@[simp] theorem State.open_scanner (s : State) (p : PortId) (b : Byte) (c : Capture) (l : List Byte) :
    (s.open p b c l).scanner = s.scanner :=
  by cases p <;> rfl
@[simp] theorem State.open_probes (s : State) (p : PortId) (b : Byte) (c : Capture) (l : List Byte) :
    (s.open p b c l).probes = s.probes :=
  by cases p <;> rfl
@[simp] theorem State.open_exposure (s : State) (p : PortId) (b : Byte) (c : Capture) (l : List Byte) :
    (s.open p b c l).exposure = s.exposure :=
  by cases p <;> rfl
@[simp] theorem State.open_offers (s : State) (p : PortId) (b : Byte) (c : Capture) (l : List Byte) :
    (s.open p b c l).offers = s.offers :=
  by cases p <;> rfl
@[simp] theorem State.open_offerTimeout (s : State) (p : PortId) (b : Byte) (c : Capture) (l : List Byte) :
    (s.open p b c l).offerTimeout = s.offerTimeout :=
  by cases p <;> rfl
@[simp] theorem State.open_lapseHeld (s : State) (p : PortId) (b : Byte) (c : Capture) (l : List Byte) :
    (s.open p b c l).lapseHeld = s.lapseHeld :=
  by cases p <;> rfl
@[simp] theorem State.open_lapseWaiting (s : State) (p : PortId) (b : Byte) (c : Capture) (l : List Byte) :
    (s.open p b c l).lapseWaiting = s.lapseWaiting :=
  by cases p <;> rfl
@[simp] theorem State.open_pending (s : State) (p : PortId) (b : Byte) (c : Capture) (l : List Byte) :
    (s.open p b c l).pending = s.pending :=
  by cases p <;> rfl

end Sys2Proof.Machine
end

