-- ==== Sys2Proof/Laws/Ops.lean ====
section
/-!
SUPPORT. What each shared operation can do, said once: the close of a frame, the search for a record and for a FREE slot,
the offer queue, a grant, and the end of a step.
-/
namespace Sys2Proof.Machine

/-! ### The close of a frame (R169) -/

theorem closeFrame_shut {row : CommandRow} {p : PortId} {count : Nat} {forced : Bool} {ref acc : State → State}
    {s : State} (h : (s.openFrame p).map (·.code) ≠ some row.code) : closeFrame row p count forced ref acc s = s := by
  simp [closeFrame, h]

theorem closeFrame_refused {row : CommandRow} {p : PortId} {count : Nat} {forced : Bool} {ref acc : State → State}
    {s : State} {r : RefusalCode} (h : (s.openFrame p).map (·.code) = some row.code)
    (t : frameTest row p count forced (s.port p).phase = some r) :
    closeFrame row p count forced ref acc s = ref ((s.endFrame p).recordRefusal p r row.code count) := by
  simp [closeFrame, h, t]

theorem closeFrame_accepted {row : CommandRow} {p : PortId} {count : Nat} {forced : Bool} {ref acc : State → State}
    {s : State} (h : (s.openFrame p).map (·.code) = some row.code)
    (t : frameTest row p count forced (s.port p).phase = none) :
    closeFrame row p count forced ref acc s = acc (s.endFrame p) := by
  simp [closeFrame, h, t]

/-- A close leaves the state as it is, or refuses, or passes. -/
theorem closeFrame_cases (row : CommandRow) (p : PortId) (count : Nat) (forced : Bool) (ref acc : State → State)
    (s : State) :
    ((s.openFrame p).map (·.code) ≠ some row.code ∧ closeFrame row p count forced ref acc s = s)
      ∨ (∃ r : RefusalCode, (s.openFrame p).map (·.code) = some row.code
          ∧ frameTest row p count forced (s.port p).phase = some r
          ∧ closeFrame row p count forced ref acc s = ref ((s.endFrame p).recordRefusal p r row.code count))
      ∨ ((s.openFrame p).map (·.code) = some row.code
          ∧ frameTest row p count forced (s.port p).phase = none
          ∧ closeFrame row p count forced ref acc s = acc (s.endFrame p)) := by
  by_cases h : (s.openFrame p).map (·.code) = some row.code
  · cases t : frameTest row p count forced (s.port p).phase with
    | none => exact .inr (.inr ⟨h, rfl, closeFrame_accepted h t⟩)
    | some r => exact .inr (.inl ⟨r, h, rfl, closeFrame_refused h t⟩)
  · exact .inl ⟨h, closeFrame_shut h⟩

/-- A frame passes exactly when its length is right, its port may send it, and, if it is queued, its port is free. -/
theorem frameTest_none (row : CommandRow) (p : PortId) (count : Nat) (forced : Bool) (ph : PortPhase) :
    frameTest row p count forced ph = none ↔
      count = row.length ∧ row.permits p = true ∧ (forced && p == .dock) = false
        ∧ (row.queued = true → ph.free = true) := by
  unfold frameTest
  split
  · simp_all
  · split
    · rename_i h; cases hp : row.permits p <;> simp_all
    · split <;> rename_i h1 h2 h3 <;> cases hq : row.queued <;> cases hf : ph.free <;> simp_all

theorem frameTest_length {row : CommandRow} {p : PortId} {count : Nat} {forced : Bool} {ph : PortPhase}
    (h : count ≠ row.length) : frameTest row p count forced ph = some .frameLength := by
  simp [frameTest, h]

theorem frameTest_permission {row : CommandRow} {p : PortId} {count : Nat} {forced : Bool} {ph : PortPhase}
    (h : count = row.length) (hp : row.permits p = false ∨ (forced && p == .dock) = true) :
    frameTest row p count forced ph = some .notPermitted := by
  simp [frameTest, h]
  rcases hp with hp | hp <;> simp_all

theorem frameTest_busy {row : CommandRow} {p : PortId} {count : Nat} {forced : Bool} {ph : PortPhase}
    (h : count = row.length) (hp : row.permits p = true) (hf : (forced && p == .dock) = false)
    (hq : row.queued = true) (hb : ph.free = false) : frameTest row p count forced ph = some .busy := by
  simp [frameTest, h, hp, hf, hq, hb]

/-- A port's open frame is the one it holds, while main power is present. -/
theorem State.openFrame_some {s : State} {p : PortId} {fr : OpenFrame} :
    s.openFrame p = some fr ↔ s.power = .present ∧ (s.port p).frame = some fr := by
  simp [State.openFrame, State.powered]

end Sys2Proof.Machine
end

