-- ==== Sys2Proof/Laws/Formats.lean ====
section
/-!
SUPPORT. Numbers on the wire, clamping, and the check word of a statement.
-/
namespace Sys2Proof.Machine

/-! ### Numbers on the wire -/

@[simp] theorem beBytes_length (k n : Nat) : (beBytes k n).length = k := by
  induction k <;> simp [beBytes, *]

theorem beNat_append (bs : List Byte) (b : Byte) : beNat (bs ++ [b]) = 256 * beNat bs + b.toNat := by
  unfold beNat
  rw [List.foldl_append, List.foldl_cons, List.foldl_nil, Nat.mul_comm]

theorem foldl_be (bs : List Byte) (a : Nat) :
    bs.foldl (fun a b => a * 256 + b.toNat) a = a * 256 ^ bs.length + beNat bs := by
  unfold beNat
  induction bs generalizing a with
  | nil => simp
  | cons x xs ih =>
    simp only [List.foldl_cons]
    rw [ih, ih (0 * 256 + x.toNat)]
    simp only [List.length_cons, pow_succ]
    ring

theorem beNat_cons (b : Byte) (bs : List Byte) : beNat (b :: bs) = b.toNat * 256 ^ bs.length + beNat bs := by
  conv_lhs => unfold beNat
  rw [List.foldl_cons, foldl_be]
  simp

theorem beNat_lt (bs : List Byte) : beNat bs < 256 ^ bs.length := by
  induction bs with
  | nil => simp [beNat]
  | cons b bs ih =>
    rw [beNat_cons, List.length_cons, pow_succ]
    have := b.isLt
    nlinarith [Nat.zero_le (256 ^ bs.length)]

theorem beNat_beBytes (k n : Nat) : beNat (beBytes k n) = n % 256 ^ k := by
  induction k generalizing n with
  | zero => simp [beBytes, beNat, Nat.mod_one]
  | succ k ih =>
    rw [beBytes, beNat_cons, beBytes_length, ih]
    have := Nat.mod_mul (a := 256 ^ k) (b := 256) (x := n)
    rw [BitVec.toNat_ofNat, show (256 : Nat) ^ (k + 1) = 256 ^ k * 256 from rfl, this, Nat.mul_comm, Nat.add_comm]

/-- The number at an offset of some bytes that hold it there. -/
theorem natAt_mid (a b c : List Byte) {o n : Nat} (ho : a.length = o) (hn : b.length = n) :
    natAt o n (a ++ b ++ c) = beNat b := by
  unfold natAt slice
  rw [List.append_assoc, ← ho, List.drop_left, ← hn, List.take_left]

theorem natAt_left (a b : List Byte) {o n : Nat} (h : o + n ≤ a.length) : natAt o n (a ++ b) = natAt o n a := by
  unfold natAt slice
  rw [List.drop_append_of_le_length (by omega), List.take_append_of_le_length (by simp; omega)]

theorem byteAt_left (a b : List Byte) {o : Nat} (h : o < a.length) : byteAt o (a ++ b) = byteAt o a := by
  unfold byteAt
  simp [List.getElem?_append, h]

theorem natAt_one {bs : List Byte} {o : Nat} (h : o < bs.length) : natAt o 1 bs = (byteAt o bs).toNat := by
  have : slice o 1 bs = [byteAt o bs] := by
    unfold slice byteAt
    rw [List.drop_eq_getElem_cons h]
    simp only [List.take_succ_cons, List.take_zero, List.getD_eq_getElem?_getD, List.getElem?_eq_getElem h,
      Option.getD_some]
  simp [natAt, this, beNat]

theorem natAt_lt (o n : Nat) (bs : List Byte) : natAt o n bs < 256 ^ n := by
  have h := beNat_lt (slice o n bs)
  have hl : (slice o n bs).length ≤ n := by simp [slice]
  exact h.trans_le (Nat.pow_le_pow_right (by decide) hl)

/-! ### Clamping -/

theorem clampInt_eq {lo hi : Int} (h : lo ≤ hi) (x : Int) :
    clampInt lo hi x = if x < lo then lo else if hi < x then hi else x := by
  unfold clampInt
  split <;> [skip; split] <;> omega

theorem clampNat_eq {lo hi : Nat} (h : lo ≤ hi) (x : Nat) :
    clampNat lo hi x = if x < lo then lo else if hi < x then hi else x := by
  unfold clampNat
  split <;> [skip; split] <;> omega

theorem clampTemp_eq (x : Int) : clampTemp x = if x < -400 then -400 else if 500 < x then 500 else x :=
  clampInt_eq (by decide) x

/-! ### The check word (R107, R108, R140) -/

theorem checkWordOf_le (words : List Nat) : checkWordOf words ≤ 65535 := by
  unfold checkWordOf
  omega

theorem carryAdd_eq (a w : Nat) : carryAdd a w = if 65535 < a + w then a + w - 65535 else a + w := by
  unfold carryAdd
  split <;> omega

@[simp] theorem form_withCheck (f : ClosedFields) (r : Record) : (f.withCheck r).form = f.form := by
  unfold ClosedFields.form
  simp only [ClosedFields.withCheck]

theorem withCheck_checkWord (f : ClosedFields) (r : Record) :
    (f.withCheck r).checkWord = BitVec.ofNat 16 (checkWordOfBytes (statementBody r f.form)) := by
  simp only [ClosedFields.withCheck]

@[simp] theorem statementBody_length (r : Record) (f : StatementForm) : (statementBody r f).length = 74 := by
  simp [statementBody, idBytes, limitBytes, intBytes, tempBytes]

theorem statementBody_unit (r : Record) (f : StatementForm) :
    natAt 16 2 (statementBody r f) = f.closingUnit.toNat := by
  have : statementBody r f
      = ([1, statementFlags f.provisional (r.cause == .carried), r.verdict.byte, r.statementCause.byte] ++ idBytes r.id)
        ++ beBytes 2 f.closingUnit.toNat
        ++ (beBytes 2 (r.carriedFrom.getD 0).toNat ++ beBytes 4 f.receiver.toNat ++ [natByte r.cls.val, compByte r.comp]
          ++ limitBytes f.limits.upper f.limits.hard f.limits.low ++ beBytes 4 f.limits.warmBudget
          ++ beBytes 4 f.limits.coldBudget ++ beBytes 4 r.warm ++ beBytes 4 r.cold ++ beBytes 4 r.excursion
          ++ beBytes 4 r.blind ++ tempBytes r.peakHigh ++ tempBytes r.peakLow ++ beBytes 2 f.door
          ++ [natByte r.lapses, natByte f.period] ++ beBytes 4 r.admittedAt.toNat ++ beBytes 4 f.closeTime.toNat) := by
    simp only [statementBody, List.append_assoc]
  rw [this, natAt_mid _ _ _ (by simp [idBytes]) (beBytes_length _ _), beNat_beBytes]
  have := f.closingUnit.isLt
  omega

/-- A closed statement verifies when its closing unit is not 0 and its check word is its body's. -/
theorem closedStatement_verifies {r : Record} {f : ClosedFields} (h : f.closingUnit ≠ 0)
    (hc : f.checkWord = BitVec.ofNat 16 (checkWordOfBytes (statementBody r f.form))) :
    verifies (closedStatement r f) = true := by
  have h0 : byteAt 0 (closedStatement r f) = 1 := by
    unfold closedStatement
    rw [byteAt_left _ _ (by simp)]
    simp [statementBody, byteAt]
  have h1 : (byteAt 1 (closedStatement r f)).getLsbD 0 = false := by
    unfold closedStatement
    rw [byteAt_left _ _ (by simp)]
    have : byteAt 1 (statementBody r f.form) = statementFlags false (r.cause == .carried) := by
      simp [statementBody, byteAt, ClosedFields.form]
    rw [this]
    cases (r.cause == .carried) <;> decide
  have h2 : presentedUnit (closedStatement r f) = f.closingUnit := by
    unfold presentedUnit closedStatement
    rw [natAt_left _ _ (by simp), statementBody_unit]
    simp [ClosedFields.form]
  have h3 : natAt 74 2 (closedStatement r f) = f.checkWord.toNat := by
    have := natAt_mid (statementBody r f.form) (beBytes 2 f.checkWord.toNat) [] (statementBody_length _ _)
      (beBytes_length _ _)
    simp only [List.append_nil] at this
    unfold closedStatement
    rw [this, beNat_beBytes]
    have := f.checkWord.isLt
    omega
  have h4 : checkWordOfBytes (closedStatement r f) = checkWordOfBytes (statementBody r f.form) := by
    unfold checkWordOfBytes closedStatement
    rw [List.take_append_of_le_length (by simp)]
  have h5 : f.checkWord.toNat = checkWordOfBytes (statementBody r f.form) := by
    rw [hc, BitVec.toNat_ofNat]
    have : checkWordOfBytes (statementBody r f.form) ≤ 65535 := checkWordOf_le _
    omega
  simp only [verifies, h0, h1, h2, h3, h4]
  simp [h5]
  exact h

end Sys2Proof.Machine
end

