-- ==== Sys2Proof/Laws/Judgement.lean ====
section
/-!
SUPPORT. The tests of chapter 6 and the choice of a verdict and a cause: what each test reaches, the highest verdict
reached, the first cause of a verdict, and the cause a presented statement carries.
-/
namespace Sys2Proof.Machine

/-! ### What each test reaches -/

theorem mem_reachedIf {b : Bool} {r c : ReasonCause} : c ∈ reachedIf b r ↔ b = true ∧ c = r := by
  unfold reachedIf
  split <;> simp_all

theorem mem_blindTest {k : ClassLimits} {blind : Nat} {c : ReasonCause} :
    c ∈ blindTest k blind ↔ BlindReached k blind c := by
  simp [blindTest, mem_reachedIf, BlindReached, and_comm]

theorem mem_budgetTests {k : ClassLimits} {warm cold : Nat} {c : ReasonCause} :
    c ∈ budgetTests k warm cold ↔ BudgetReached k warm cold c := by
  simp only [budgetTests, List.mem_append, mem_reachedIf]
  cases c <;> simp [BudgetReached, and_assoc]

/-- The hard limits on an optional high and an optional low temperature. -/
theorem mem_hardTests {k : ClassLimits} {high low : Option Int} {c : ReasonCause} :
    c ∈ high.elim [] (hardHighTest k) ++ low.elim [] (hardLowTest k) ↔ HardReached k high low c := by
  rw [List.mem_append]
  cases high <;> cases low <;> cases hk : k.low <;> cases c <;>
    simp [hardHighTest, hardLowTest, mem_reachedIf, HardReached, hk]

/-! ### The highest verdict and its first cause (R94) -/

theorem rank_inj {a b : Verdict} (h : a.rank = b.rank) : a = b := by
  cases a <;> cases b <;> simp_all [Verdict.rank]

theorem higher_cases (a b : Verdict) :
    (a.higher b = a ∧ b.rank ≤ a.rank) ∨ (a.higher b = b ∧ a.rank < b.rank) := by
  unfold Verdict.higher
  split <;> simp_all

theorem highestReached_spec (reached : List ReasonCause) (v : Verdict) :
    HighestOf v (· ∈ reached) (highestReached v reached) := by
  unfold highestReached
  induction reached generalizing v with
  | nil => exact ⟨le_rfl, .inl rfl, by simp⟩
  | cons x xs ih =>
    obtain ⟨h1, h2, h3⟩ := ih (v.higher x.verdict)
    have hh := higher_cases v x.verdict
    rw [List.foldl_cons]
    refine ⟨?_, ?_, fun c hc => ?_⟩
    · rcases hh with ⟨h, h'⟩ | ⟨h, h'⟩ <;> rw [h] at h1 ⊢ <;> omega
    · rcases h2 with h2 | ⟨c, hc, h2⟩
      · rcases hh with ⟨h, -⟩ | ⟨h, -⟩
        · exact .inl (h2.trans h)
        · exact .inr ⟨x, by simp, (h2.trans h).symm⟩
      · exact .inr ⟨c, by simp [hc], h2⟩
    · rcases List.mem_cons.mp hc with rfl | hc
      · rcases hh with ⟨h, h'⟩ | ⟨h, h'⟩ <;> rw [h] at h1 ⊢ <;> omega
      · exact h3 c hc

theorem firstCause_spec {v : Verdict} {reached : List ReasonCause} (h : ∃ c ∈ reached, c.verdict = v) :
    ∃ c : ReasonCause, firstCause v reached = some c ∧ FirstReached (· ∈ reached) v c := by
  obtain ⟨c0, hc0, hv⟩ := h
  cases hf : firstCause v reached with
  | none =>
    have := List.find?_eq_none.mp hf c0 (by cases c0 <;> decide)
    simp [hc0, hv] at this
  | some c =>
    have hs := List.find?_some hf
    simp only [Bool.and_eq_true, List.contains_iff_mem, beq_iff_eq] at hs
    refine ⟨c, rfl, hs.1, hs.2, fun d hd hdv => ?_⟩
    obtain ⟨_, i, hi, hci, hlt⟩ := List.find?_eq_some_iff_getElem.mp hf
    have hnd : causeOrder.Nodup := by decide
    have hci' : causeOrder.idxOf c = i := by
      rw [← hci]
      exact List.Nodup.idxOf_getElem hnd i hi
    rw [hci']
    by_contra hlt'
    push Not at hlt'
    have := hlt _ hlt'
    rw [List.getElem_idxOf] at this
    simp [hd, hdv] at this

theorem firstCause_intact (reached : List ReasonCause) : firstCause .intact reached = none := by
  rw [firstCause, List.find?_eq_none]
  intro x _
  cases x <;> simp [ReasonCause.verdict]

end Sys2Proof.Machine
end

