-- ==== Sys2Proof/Laws/Steps.lean ====
section
/-!
SUPPORT. What the shared operations of a table step can do, said once: finding a record and a FREE slot, naming a
compartment, the offer queue, the judgement in one act, a grant, and the end of a step.
-/
namespace Sys2Proof.Machine

/-! ### Finding records and slots (R5, R7) -/

theorem findId_some {s : State} {id : ConsignmentId} {i : SlotNo} (h : s.findId id = some i) :
    ∃ r : Record, s.idAt id i r := by
  have := List.find?_some h
  cases hs : s.slots[i] with
  | none => rw [hs] at this; cases this
  | some r => exact ⟨r, hs, by rw [hs] at this; simpa using this⟩

theorem findId_none {s : State} {id : ConsignmentId} : s.findId id = none ↔ s.idFree id := by
  simp only [State.findId, List.find?_eq_none, slotNumbers, List.mem_finRange, true_implies, State.idFree]
  constructor
  · intro h i r hr
    have := h i
    rw [hr] at this
    simpa using this
  · intro h i
    cases hr : s.slots[i] with
    | none => simp
    | some r => simpa using h i r hr

/-- The search for an ID finds the one record that holds it. -/
theorem findRecord_idAt {s : State} {id : ConsignmentId} {i : SlotNo} {r : Record} (hs : IdsRight s)
    (h : s.idAt id i r) : s.findRecord id = some (i, r) := by
  cases hf : s.findId id with
  | none => exact absurd h.2 (findId_none.mp hf i r h.1)
  | some j =>
    obtain ⟨q, hq, hqid⟩ := findId_some hf
    have hij : j = i := hs.2 j i q r hq h.1 (hqid.trans h.2.symm)
    subst hij
    have h1 := h.1
    simp only [State.findRecord, hf, Option.bind_some, h1, Option.map_some]

theorem findRecord_some {s : State} {id : ConsignmentId} {i : SlotNo} {r : Record}
    (h : s.findRecord id = some (i, r)) : s.idAt id i r := by
  cases hf : s.findId id with
  | none => simp [State.findRecord, hf] at h
  | some j =>
    obtain ⟨q, hq, hqid⟩ := findId_some hf
    simp only [State.findRecord, hf, Option.bind_some, hq, Option.map_some, Option.some.injEq, Prod.mk.injEq] at h
    obtain ⟨rfl, rfl⟩ := h
    exact ⟨hq, hqid⟩

theorem findRecord_none {s : State} {id : ConsignmentId} : s.findRecord id = none ↔ s.idFree id := by
  rw [← findId_none]
  constructor
  · intro h
    cases hf : s.findId id with
    | none => rfl
    | some j =>
      obtain ⟨q, hq, -⟩ := findId_some hf
      simp [State.findRecord, hf] at h
      simp_all
  · intro h
    simp [State.findRecord, h]

/-- A search through the slots in ascending order answers the lowest that passes. -/
theorem find_slot_some {f : SlotNo → Bool} {i : SlotNo} :
    slotNumbers.find? f = some i ↔ f i = true ∧ ∀ j : SlotNo, j < i → f j = false := by
  rw [slotNumbers, List.find?_eq_some_iff_getElem]
  constructor
  · rintro ⟨hf, k, hk, hki, hlt⟩
    refine ⟨hf, fun j hj => ?_⟩
    have hkv : k = i.val := by have := congrArg Fin.val hki; simpa using this
    have := hlt j.val (by have : j.val < i.val := hj; omega)
    simpa using this
  · rintro ⟨hf, hlt⟩
    refine ⟨hf, i.val, by simp, by simp, fun j hj => ?_⟩
    simpa using hlt ⟨j, by omega⟩ hj

theorem find_slot_none {f : SlotNo → Bool} : slotNumbers.find? f = none ↔ ∀ j : SlotNo, f j = false := by
  simp [slotNumbers, List.find?_eq_none]

/-- The lowest-numbered FREE slot. -/
theorem firstFree_some {s : State} {i : SlotNo} :
    s.firstFree = some i ↔ s.slots[i] = none ∧ ∀ j : SlotNo, j < i → s.slots[j] ≠ none := by
  rw [State.firstFree, find_slot_some]
  simp [Option.isSome_iff_ne_none]

theorem firstFree_none {s : State} : s.firstFree = none ↔ ∀ j : SlotNo, s.slots[j] ≠ none := by
  rw [State.firstFree, find_slot_none]
  simp [Option.isSome_iff_ne_none]

/-! ### Compartment fields (R179) -/

theorem compField_some {b : Byte} {c : CompNo} : compField b = some c ↔ b.toNat = c.val + 1 := by
  unfold compField
  split
  · rename_i h
    simp only [Option.some.injEq, Fin.ext_iff]
    omega
  · rename_i h
    simp only [reduceCtorEq, false_iff]
    omega

theorem activeField_some {inp : StepInputs} {b : Byte} {c : CompNo} :
    activeField inp.comps b = some c ↔ namesActive inp b c := by
  unfold activeField namesActive
  rw [Option.filter_eq_some_iff, compField_some]

theorem activeField_none {inp : StepInputs} {b : Byte} :
    activeField inp.comps b = none ↔ ∀ c : CompNo, ¬namesActive inp b c := by
  rw [Option.eq_none_iff_forall_ne_some]
  exact forall_congr' fun c => not_congr activeField_some

/-! ### A live record -/

theorem doorExposures_eq (inp : StepInputs) (r : Record) (l : LiveFields) :
    doorExposures inp.comps[r.comp].openings l = doorFigure inp r l := rfl

theorem live_some {r : Record} {l : LiveFields} (h : r.live = some l) :
    r.custody = .aboard l ∨ ∃ d : RouteTime, r.custody = .offered l d := by
  unfold Record.live Custody.live at h
  split at h
  · exact .inl (by simp_all)
  · exact .inr ⟨_, by simp_all; rfl⟩
  · cases h

theorem live_none {r : Record} (h : r.live = none) : ∃ f : ClosedFields, r.custody = .closed f := by
  unfold Record.live Custody.live at h
  split at h
  · cases h
  · cases h
  · exact ⟨_, by assumption⟩

/-! ### Raising nothing -/

@[simp] theorem Port.raise_zero (x : Port) : x.raise 0 = x := by
  obtain ⟨ph, lr, cu, fi, fl, ma, fr, re⟩ := x
  cases fr with
  | none => simp [Port.raise]
  | some f =>
    obtain ⟨code, cap⟩ := f
    cases cap <;> simp [Port.raise]

@[simp] theorem State.raise_zero (s : State) : s.raise 0 = s := by
  rw [State.raise, Port.raise_zero, Port.raise_zero]

/-! ### The end of a step (R173) -/

/-- The end of a port's step that no PORT RESET met: its work's changes, the engine free, its result placed. -/
theorem State.finishPort_eq (s : State) (p : PortId) (cmd : PortCommand) (inp : StepInputs) :
    s.finishPort p cmd inp false = State.stepEnds (portWork p inp s cmd).1 p (portWork p inp s cmd).2 := rfl

theorem endStep_portKind {s : State} {p : PortId} {cmd : PortCommand} {inp : StepInputs} (h : s.stepIs p cmd inp)
    {kind : PortCommand → Bool} (hk : kind cmd = true) :
    endStep (portKind p kind) s = State.stepEnds (portWork p inp s cmd).1 p (portWork p inp s cmd).2 := by
  obtain ⟨hp, he⟩ := h
  simp [endStep, he, State.powered, hp, portKind, hk, State.finish, State.finishPort_eq]

/-- The end a port's step row tells: that of the command's own work. -/
theorem exec_ends_of_stepRow {s : State} {p : PortId} {cmd : PortCommand} {inp : StepInputs}
    {row : StepPhase → Instr} (hr : stepRow p cmd = some row) (h : s.stepIs p cmd inp) :
    exec (row .ends) s = .next (State.stepEnds (portWork p inp s cmd).1 p (portWork p inp s cmd).2) := by
  cases p <;> cases cmd <;> first
    | (cases hr; done)
    | (cases hr; exact congrArg Host.Outcome.next (endStep_portKind h rfl))

/-- The end of a step of no port. -/
theorem endStep_work {s : State} {w : StepWork} {inp : StepInputs} (h : s.workIs w inp) {kind : StepWork → Bool}
    (hk : kind w = true) : endStep kind s = s.finish { work := w, inputs := inp, discarded := false } := by
  obtain ⟨hp, he⟩ := h
  simp [endStep, he, State.powered, hp, hk]

/-! ### A grant (R12) -/

theorem mayGrant_iff {s : State} {r : Requester} :
    s.mayGrant r = true ↔ s.power = .present ∧ s.engine = none
      ∧ (∀ v : RouteTime, s.unitPort.phase ≠ .waiting (.setClock v)) ∧ s.order.find? s.stepWaiting = some r := by
  have hc : s.clockEventDue = false ↔ ∀ v : RouteTime, s.unitPort.phase ≠ .waiting (.setClock v) := by
    unfold State.clockEventDue
    split <;> simp_all
  simp [State.mayGrant, State.powered, Option.isNone_iff_eq_none, hc, and_assoc]

/-! ### The offer queue (R128, R129) -/

theorem headReached_eq (s : State) : s.headReached = lapseDue s s.offers := by
  unfold State.headReached lapseDue
  cases s.offers <;> rfl

theorem insertOffer_split (e : Offer) (q : List Offer) :
    ∃ pre post : List Offer, q = pre ++ post ∧ insertOffer e q = pre ++ e :: post
      ∧ (∀ x ∈ pre, notLater x.deadline e.deadline = true)
      ∧ ∀ x : Offer, post.head? = some x → notLater x.deadline e.deadline = false := by
  induction q with
  | nil => exact ⟨[], [], rfl, rfl, by simp, by simp⟩
  | cons x xs ih =>
    by_cases h : notLater x.deadline e.deadline = true
    · obtain ⟨pre, post, h1, h2, h3, h4⟩ := ih
      refine ⟨x :: pre, post, by simp [h1], by simp [insertOffer, h, h2], ?_, h4⟩
      intro y hy
      rcases List.mem_cons.mp hy with rfl | hy
      · exact h
      · exact h3 y hy
    · refine ⟨[], x :: xs, rfl, by simp [insertOffer, h], by simp, ?_⟩
      intro y hy
      have : x = y := by simpa using hy
      subst this
      simpa using h

theorem insertOffer_perm (e : Offer) (q : List Offer) : (insertOffer e q).Perm (e :: q) := by
  obtain ⟨pre, post, h1, h2, -⟩ := insertOffer_split e q
  rw [h2, h1]
  exact List.perm_middle

theorem removeOffer_eq (i : SlotNo) (q : List Offer) : removeOffer i q = q.filter (fun o => decide (o.slot ≠ i)) := by
  unfold removeOffer
  congr 1
  funext o
  simp [bne]
  rfl

theorem retestHead_eq (s : State) : s.retestHead = { s with lapseWaiting := lapseDue s s.offers } := by
  unfold State.retestHead
  rw [headReached_eq]

/-! ### The close of a queued command's frame (R169) -/

theorem free_iff (ph : PortPhase) : ph.free = true ↔ ph.inFlight = none := by
  cases ph <;> simp [PortPhase.free, PortPhase.inFlight]

/-- A queued command's frame that passes its tests is closed and taken. -/
theorem closeFrame_accepts {s : State} {row : CommandRow} {p : PortId} {bytes : List Byte} {unit dock forced : Bool}
    {ref acc : State → State}
    (hp : (row.permits p && !(forced && p == .dock)) = (match p with
      | .unit => unit
      | .dock => dock))
    (h : s.accepts ⟨p, row.code, row.length, unit, dock, bytes⟩) :
    closeFrame row p (bytes.length + 1) forced ref acc s = acc (s.endFrame p) := by
  obtain ⟨⟨hpw, hfr⟩, hlen, hperm, hfree⟩ := h
  have hopen : (s.openFrame p).map (·.code) = some row.code := by
    simpa [State.openFrame, State.powered, hpw] using hfr
  refine closeFrame_accepted hopen ((frameTest_none _ _ _ _ _).mpr ?_)
  have : (row.permits p && !(forced && p == .dock)) = true := by
    rw [hp]
    cases p <;> simpa [QueuedFrame.permitted] using hperm
  rw [Bool.and_eq_true, Bool.not_eq_true'] at this
  exact ⟨hlen, this.1, this.2, fun _ => (free_iff _).mpr hfree⟩

theorem acceptWaiting_endFrame (s : State) (p : PortId) (cmd : PortCommand) :
    acceptWaiting p cmd (s.endFrame p) = s.closedInto p (.waiting cmd) := by
  simp [acceptWaiting, State.setPhase, State.endFrame, State.closedInto]

theorem place_endFrame (s : State) (p : PortId) (r : Result) : (s.endFrame p).place p r = s.closedInto p (.result r) := by
  simp [State.place, State.setPhase, State.endFrame, State.closedInto]

/-! ### Walks (R16, R18) -/

theorem matchesRecord_iff (f : WalkFilter) (r : Record) : f.matchesRecord r = true ↔ Matches f r := by
  unfold WalkFilter.matchesRecord Matches WalkFilter.admitsState
  cases r.custody <;> cases hc : f.comp <;> simp [and_assoc] <;> exact fun _ _ => eq_comm

/-! ### Admission (R104) -/

/-- The checks of an admission, each with what it answers, and what it takes when all pass. -/
theorem admitChecks_spec (s : State) (inp : StepInputs) (id : ConsignmentId) (cls : ClassNo) (comp : Byte) :
    (id = 0 → s.admitChecks inp id cls comp = .error .badId)
      ∧ (id ≠ 0 → (∀ c : CompNo, ¬namesActive inp comp c) → s.admitChecks inp id cls comp = .error .badCompartment)
      ∧ ∀ c : CompNo, id ≠ 0 → namesActive inp comp c →
        (s.classes[cls] = none → s.admitChecks inp id cls comp = .error .classUnset)
          ∧ ∀ k : ClassLimits, s.classes[cls] = some k →
            (¬s.idFree id → s.admitChecks inp id cls comp = .error .duplicate)
              ∧ (s.idFree id → (∀ i : SlotNo, s.slots[i] ≠ none) →
                  s.admitChecks inp id cls comp = .error .tableFull)
              ∧ (s.idFree id → ∀ i : SlotNo, s.slots[i] = none → (∀ j : SlotNo, j < i → s.slots[j] ≠ none) →
                  s.admitChecks inp id cls comp = .ok (c, k, i)) := by
  refine ⟨fun h => by simp [State.admitChecks, h],
    fun h hc => by simp only [State.admitChecks, h, activeField_none.mpr hc, if_false],
    fun c h hc => ⟨fun h2 => by simp only [State.admitChecks, h, activeField_some.mpr hc, if_false, h2],
      fun k hk => ⟨fun hn => ?_, fun hn hf => ?_, fun hn i hi hj => ?_⟩⟩⟩
  · have : (s.findId id).isSome = true := by
      rw [Option.isSome_iff_ne_none]
      exact fun hh => hn (findId_none.mp hh)
    simp only [State.admitChecks, h, activeField_some.mpr hc, if_false, hk, this, if_true]
  · simp only [State.admitChecks, h, activeField_some.mpr hc, if_false, hk, findId_none.mpr hn, firstFree_none.mpr hf,
      Option.isSome_none, Bool.false_eq_true]
  · simp only [State.admitChecks, h, activeField_some.mpr hc, if_false, hk, findId_none.mpr hn,
      firstFree_some.mpr ⟨hi, hj⟩, Option.isSome_none, Bool.false_eq_true]

/-- A record taken aboard: its slot, its two counts, its gap exemption and its verdict's flag. -/
theorem takeAboard_eq (s : State) (i : SlotNo) (r : Record) :
    s.takeAboard i r =
      State.raise
        { s with
          slots := put s.slots i (some r)
          useCount := put s.useCount r.cls (s.useCount[r.cls] + 1)
          occupancy := put s.occupancy r.comp (s.occupancy[r.comp] + 1)
          exposure :=
            if s.exposure.gapEnd.isSome = true ∧ s.exposure.gapCursor ≤ i then
              { s.exposure with gapExempt := put s.exposure.gapExempt i true }
            else s.exposure }
        (verdictFlag r.verdict r.comp) := by
  unfold State.takeAboard State.exemptFromGap
  congr 1
  by_cases h : s.exposure.gapEnd.isSome = true ∧ s.exposure.gapCursor ≤ i
  · rw [if_pos h, if_pos]
    · rfl
    · rw [Bool.and_eq_true, decide_eq_true_eq]
      exact h
  · rw [if_neg h, if_neg]
    · rfl
    · rw [Bool.and_eq_true, decide_eq_true_eq]
      exact h

/-! ### Probes in and out of service (R54) -/

theorem serveProbes_get (c : CompNo) (a b : Settings) (probes : Vector Probe 8) (n : ProbeNo) :
    (serveProbes c a b probes)[n]
      = if n.val / 2 ≠ c.val then probes[n] else Probe.serve (servedBy a n) (servedBy b n) probes[n] := by
  unfold serveProbes
  rw [put_get, put_get]
  by_cases h1 : airProbe c = n
  · have h2 : n.val / 2 = c.val := by
      rw [← h1]
      simp [airProbe]
      omega
    rw [if_pos h1]
    simp only [h2, ne_eq, not_true, if_false]
    subst h1
    rfl
  · rw [if_neg h1]
    by_cases h3 : simulantProbe c = n
    · have h2 : n.val / 2 = c.val := by
        rw [← h3]
        simp [simulantProbe]
      rw [if_pos h3]
      simp only [h2, ne_eq, not_true, if_false]
      subst h3
      rfl
    · rw [if_neg h3, if_pos]
      intro h
      simp [simulantProbe, airProbe, Fin.ext_iff] at h1 h3
      omega

end Sys2Proof.Machine
end

