-- ==== Sys2Proof/WellFormed.lean ====
section
/-!
DEFINITION. Which terms of `Instr` stand for a command or event the part can meet.
-/
namespace Sys2Proof

/-- A frame in which no whole byte was clocked is not a frame (R168), so a frame's count includes its code. -/
def frameHasByte (count : Nat) : Bool := decide (1 ≤ count)

/-- Bit 0 of the options byte that stands at offset `i` after the code: TRIAL in MOVE, UNSET in SET CLASS (R179).
A frame that ends before that byte has no option set. -/
def optionSet (bytes : List Byte) (i : Nat) : Bool := (bytes[i]?.map (·.getLsbD 0)).getD false

/-- A resume start has the five stages of R154 and a blank start three (log 7); main power that goes again goes after
fewer than five of them. -/
def cutWithinStart (cutAfter : Option Nat) : Bool := decide (cutAfter.getD 0 < 5)

/-- A well-formed command: its frame has its code byte, its options byte names the row it is told as, and its start is
cut within its stages. -/
def Instr.wellFormed : Instr → Bool
  | .frameRead _ _ => true
  | .unknownCommandFrame _ count => frameHasByte count
  | .readPortStatus _ count => frameHasByte count
  | .pollFlags _ count => frameHasByte count
  | .setFlagMask _ _ => true
  | .readResult _ count => frameHasByte count
  | .cancel _ count => frameHasByte count
  | .portReset _ count => frameHasByte count
  | .admitFresh _ _ => true
  | .admitCarried _ _ => true
  | .discard _ _ => true
  | .find _ _ => true
  | .walk _ _ => true
  | .walkNext _ _ => true
  | .move _ bytes => !optionSet bytes 13
  | .moveTrial _ bytes => optionSet bytes 13
  | .moveAll _ _ => true
  | .offer _ _ => true
  | .withdraw _ _ => true
  | .confirm _ _ => true
  | .readStatement _ _ => true
  | .retire _ _ => true
  | .setOfferTimeout _ _ => true
  | .setClass _ bytes => !optionSet bytes 1
  | .setClassUnset _ bytes => optionSet bytes 1
  | .readClass _ _ => true
  | .setCompartment _ _ => true
  | .readCompartment _ _ => true
  | .defrostStart _ _ => true
  | .defrostEnd _ _ => true
  | .setScanPeriod _ _ => true
  | .readScan _ _ => true
  | .readClock _ _ => true
  | .setClock _ _ => true
  | .setUnitId _ _ => true
  | .setClockEvent => true
  | .admitStep _ _ => true
  | .findStep _ _ => true
  | .walkStep _ _ => true
  | .moveStep _ => true
  | .trialMoveStep _ => true
  | .moveAllSlot _ => true
  | .discardStep _ => true
  | .offerStep _ _ => true
  | .withdrawStep _ _ => true
  | .closeStep _ => true
  | .readStatementStep _ _ => true
  | .retireStep _ _ => true
  | .classTestStep _ => true
  | .compartmentTestStep _ => true
  | .tableTestStep _ => true
  | .routeClockSecond => true
  | .doorOpens _ => true
  | .doorCloses _ => true
  | .doorLong _ => true
  | .scanTick => true
  | .probeAnswer _ _ _ => true
  | .probeSilent => true
  | .accrualVisit _ => true
  | .offerDeadlineReached => true
  | .lapseStep _ => true
  | .mainPowerLoss _ => true
  | .mainPowerReturn cutAfter => cutWithinStart cutAfter
  | .retentionSupplyFails => true
  | .gapVisit _ => true

end Sys2Proof
end

