-- ==== Sys2Proof/Tests/Slice0.lean ====
section
/-!
SUPPORT. Tests. Refused ill-formed terms; the figures of the manual's worked route (chapter 13) and of its other worked
examples; and, for every statement with hypotheses, a concrete state that meets them (`witness_<statement>`).
-/
namespace Sys2Proof.Tests

open Sys2Proof.Machine

set_option Elab.async false

/-! ### Ill-formed commands are refused -/

theorem test_illformed_count : Instr.wellFormed (.pollFlags .unit 0) = false := by decide
theorem test_illformed_unknown : Instr.wellFormed (.unknownCommandFrame .dock 0) = false := by decide
theorem test_illformed_status : Instr.wellFormed (.readPortStatus .dock 0) = false := by decide
theorem test_illformed_result : Instr.wellFormed (.readResult .dock 0) = false := by decide
theorem test_illformed_cancel : Instr.wellFormed (.cancel .unit 0) = false := by decide
theorem test_illformed_port_reset : Instr.wellFormed (.portReset .unit 0) = false := by decide
theorem test_illformed_move : Instr.wellFormed (.move .unit (List.replicate 13 0 ++ [0x01])) = false := by decide
theorem test_illformed_trial : Instr.wellFormed (.moveTrial .unit (List.replicate 14 0)) = false := by decide
theorem test_illformed_set_class : Instr.wellFormed (.setClass .unit [0x02, 0x01]) = false := by decide
theorem test_illformed_unset : Instr.wellFormed (.setClassUnset .unit [0x02, 0x00]) = false := by decide
theorem test_illformed_cut : Instr.wellFormed (.mainPowerReturn (some 5)) = false := by decide
theorem test_wellformed_cut : Instr.wellFormed (.mainPowerReturn (some 4)) = true := by decide

/-! ### The route of chapter 13 -/

/-- Class 1, chilled meat, and class 2, chilled dairy (section 13.1). -/
def meat : ClassLimits :=
  { upper := 40, hard := 100, low := some { lower := -15, floor := -25 }, warmBudget := 4000, coldBudget := 2000,
    watchPercent := 50, tolerance := 1200 }
def dairy : ClassLimits :=
  { upper := 50, hard := 120, low := some { lower := -10, floor := -30 }, warmBudget := 6000, coldBudget := 3000,
    watchPercent := 50, tolerance := 1800 }

/-- Compartments 1 and 2 (section 13.1). -/
def front : Compartment :=
  { settings := { active := true, simulant := true, air := true, airOffset := 0, holdLimit := 2, doorLimit := 300,
                  ceiling := 80, shieldBase := 2, recoveryLength := 1 }
    defrost := .normal, shieldLeft := 0, recoveryLeft := 0, doorOpen := false, openings := 6, doorDeadline := none
    lastGood := some 42, held := 0, keptSource := some .simulant
    snapshot := some { reading := .simulant 42, span := 5, doorOpen := false, shielded := false, takenAt := 7200 }
    ceilingInForce := 80 }
def rear : Compartment :=
  { settings := { active := true, simulant := true, air := false, airOffset := 0, holdLimit := 2, doorLimit := 300,
                  ceiling := 60, shieldBase := 1, recoveryLength := 1 }
    defrost := .normal, shieldLeft := 0, recoveryLeft := 0, doorOpen := false, openings := 4, doorDeadline := none
    lastGood := some 30, held := 0, keptSource := some .simulant
    snapshot := some { reading := .simulant 30, span := 5, doorOpen := false, shielded := false, takenAt := 7200 }
    ceilingInForce := 60 }

/-- The part at 7,200, its table empty (section 13.1). -/
def route : State :=
  { State.reset with
    clock := 7200, unitId := 4606, classes := put (put (Vector.replicate 8 none) 1 (some meat)) 2 (some dairy)
    comps := put (put State.reset.comps 0 front) 1 rear
    scanner := { State.reset.scanner with tag := 20, nextTick := some 7230 } }

/-- A as admitted at 7,200 (section 13.2); its ID is 30h 39h after zeros. -/
def recordA : Record :=
  { id := 12345, cls := 2, comp := 0, admittedAt := 7200, warm := 0, cold := 0, excursion := 0, blind := 0
    peakHigh := none, peakLow := none, lapses := 0, verdict := .intact, cause := .nothing, carriedCause := none
    carriedFrom := none, custody := .aboard { doorStored := 0, doorBase := 6, tag := 20 } }

/-- A in the offer queue. -/
def offeredA : Record := { recordA with custody := .offered { doorStored := 0, doorBase := 6, tag := 20 } 7460 }

/-- A as the close step finds it at 7,495 (section 13.5). -/
def recordAtClose : Record :=
  { recordA with
    warm := 235, excursion := 60, peakHigh := some 86, peakLow := some 40, lapses := 1
    custody := .offered { doorStored := 0, doorBase := 6, tag := 29 } 8080 }

/-- What A's close step read: the clock, compartment 1 with 8 openings, the scan period. -/
def closeInputs : StepInputs :=
  { now := 7495, comps := put route.comps 0 { front with openings := 8 }, tag := 29, period := 5, offerTimeout := 600 }

/-- A's closed fields. -/
def closedA : ClosedFields :=
  ClosedFields.withCheck
    (closingFields closeInputs 4606 90001 dairy recordAtClose { doorStored := 0, doorBase := 6, tag := 29 }) recordAtClose

/-- A CLOSED, its statement unread. -/
def recordClosed : Record := { recordAtClose with custody := .closed closedA }

/-- A record in slot 0 of the route, with its counts. -/
def holding (r : Record) : State :=
  { route with
    slots := put route.slots 0 (some r)
    useCount := if r.live.isSome then put route.useCount r.cls 1 else route.useCount
    occupancy := if r.live.isSome then put route.occupancy r.comp 1 else route.occupancy
    offers := match r.custody with
      | .offered _ d => [{ slot := 0, deadline := d }]
      | _ => [] }

/-- A step in progress. -/
def performing (w : StepWork) (s : State) : State :=
  { s with engine := some { work := w, inputs := s.inputs, discarded := false } }

/-- A port's step in progress, its port WORKING. -/
def atWork (p : PortId) (cmd : PortCommand) (s : State) : State :=
  (performing (.port p cmd) s).setPhase p (.working cmd)

/-- A frame open on a port. -/
def opened (p : PortId) (code : Byte) (capture : Capture) (s : State) : State :=
  s.setPort p { s.port p with frame := some { code := code, capture := capture } }

/-- The state after a command. -/
def after (c : Instr) (s : State) : State :=
  match exec c s with
  | .next t => t
  | _ => s

theorem test_admission_answer :
    ((after (.admitStep .unit .ends) (atWork .unit (.admitFresh 12345 2 1) route)).port .unit).phase
      = .result { code := .ok, command := 0x10, data := [0, 0, 0] } := by decide +kernel

theorem test_admitted_record :
    (after (.admitStep .unit .ends) (atWork .unit (.admitFresh 12345 2 1) route)).slots[(0 : SlotNo)] = some recordA := by
  decide +kernel

/-- Scan 22 over A: +61 with the door open, ew 11, charge 55, excursion 30 (section 13.3). -/
theorem test_scan_22 :
    let n : Snapshot := { reading := .simulant 61, span := 5, doorOpen := true, shielded := false, takenAt := 7260 }
    let r := (recordA.charge { doorStored := 0, doorBase := 6, tag := 21 } dairy 80 n 22).1
    r.warm = 55 ∧ r.excursion = 30 ∧ r.peakHigh = some 61 ∧ r.verdict = .intact := by decide

/-- Scans 23 and 24: +74 under the shield adds nothing; +86 lies above the ceiling and is charged in full. -/
theorem test_scan_23_and_24 :
    let n (t : Int) : Snapshot :=
      { reading := .simulant t, span := 5, doorOpen := false, shielded := true, takenAt := 7290 }
    let r := { recordA with warm := 55, excursion := 30 }
    (r.charge { doorStored := 0, doorBase := 6, tag := 22 } dairy 80 (n 74) 23).1.warm = 55
      ∧ (r.charge { doorStored := 0, doorBase := 6, tag := 23 } dairy 80 (n 86) 24).1.warm = 235 := by decide

/-- Scan 24: the last shielded snapshot of compartment 1 raises SHIELD_SPENT_1; probe 2 failing, compartment 2 falls from
SIMULANT to HELD and raises HELD_2. -/
theorem test_scan_24_flags :
    ({ front with defrost := .defrost, shieldLeft := 1 }).formFlags 0 (some 86) none = BitVec.twoPow 38 4
      ∧ ({ rear with lastGood := some 36 }).formFlags 1 none none = BitVec.twoPow 38 9
      ∧ (({ rear with lastGood := some 36 }).form none none 5 7320).held = 1 := by decide

/-- Scan 25: the recovery countdown brings compartment 1 to NORMAL. -/
theorem test_scan_25 :
    (({ front with defrost := .recovery, recoveryLeft := 1 }).form (some 48) none 5 7350).defrost = .normal := by decide

/-- B against compartment 1's +45: 25 more, W 925, still WATCH with cause CARRIED (section 13.4). -/
theorem test_charge_of_b :
    let b : Record :=
      { recordA with
        cls := 1, warm := 900, excursion := 600, blind := 300, peakHigh := some 46, peakLow := some 20
        verdict := .watch, cause := .carried, carriedCause := some .watchWarm, carriedFrom := some 3012 }
    let n : Snapshot := { reading := .simulant 45, span := 5, doorOpen := false, shielded := false, takenAt := 7380 }
    let r := (b.charge { doorStored := 13, doorBase := 7, tag := 25 } meat 80 n 26).1
    r.warm = 925 ∧ r.excursion = 630 ∧ r.verdict = .watch ∧ r.cause = .carried := by decide

/-- B's admission: 900 × 100 is below 50 × 4,000, and the carried WATCH stands with cause CARRIED (section 13.2). -/
theorem test_carried_admission :
    let b := judgeCarried .watch (presentedCause .watch 1) (budgetTests meat 900 0) { recordA with warm := 900 }
    b.verdict = .watch ∧ b.cause = .carried ∧ b.carriedCause = some .watchWarm := by decide

/-- The fold of B's door exposures: 12 + (5 − 4) = 13 (section 13.4). -/
theorem test_door_fold : doorExposures 5 { doorStored := 12, doorBase := 4, tag := 25 } = 13 := by decide

/-- The statement of A carries check word 64,373, and CONFIRM answers slot 0, INTACT, NONE and FB75h (section 13.5). -/
theorem test_check_word_of_a : closedA.checkWord = 64373 := by decide +kernel

theorem test_confirm_answer :
    (confirmAnswer 0 recordAtClose closedA).data = [0, 0, 0, 0xFB, 0x75] := by decide +kernel

/-- The words of A's statement named in section 13.5. -/
theorem test_words_of_a :
    let b := closedStatement recordClosed closedA
    natAt 0 2 b = 256 ∧ natAt 14 2 b = 12345 ∧ natAt 16 2 b = 4606 ∧ natAt 22 2 b = 24465 ∧ natAt 24 2 b = 513
      ∧ natAt 30 2 b = 65526 ∧ natAt 44 2 b = 235 ∧ natAt 58 2 b = 86 ∧ natAt 62 2 b = 2 ∧ natAt 64 2 b = 261
      ∧ natAt 68 2 b = 7200 ∧ natAt 72 2 b = 7495 := by decide +kernel

/-- A sum that folds to 65,535 gives the check word 0, and the fold of 1,234,567 gives 10,598 (R108, worked figures). -/
theorem test_check_word_fold :
    checkWordOf [65535, 65535] = 0 ∧ checkWordOf (List.replicate 18 65535 ++ [54937]) = 10598 := by decide

/-- OFFER with its own timeout 0 uses the stored 600 s: deadline 8,080 at 7,480 (section 13.5). -/
theorem test_offer_deadline : later 7480 (offerTimeoutUsed 600 0) = 8080 := by decide

/-- RETIRE of A unread is refused with UNREAD, and after READ STATEMENT frees slot 0 (section 13.5). -/
theorem test_retire_unread :
    ((after (.retireStep .dock .ends) (atWork .dock (.retire 12345 false) (holding recordClosed))).port .dock).phase
      = .result { code := .unread, command := 0x24, data := [] } := by decide +kernel

theorem test_retire_read :
    (after (.retireStep .dock .ends)
      (atWork .dock (.retire 12345 false)
        (after (.readStatementStep .dock .ends) (atWork .dock (.readStatement 12345) (holding recordClosed))))).slots[
      (0 : SlotNo)] = none := by decide +kernel

/-! ### Other worked rules -/

/-- The arbiter after a start grants the Unit Port before the Dock Port, and the Unit Port then stands lowest (R12). -/
theorem test_arbiter :
    let s := (route.setPhase .unit (.waiting (.find 1))).setPhase .dock (.waiting (.find 2))
    s.mayGrant .unitPort = true ∧ s.mayGrant .dockPort = false
      ∧ (after (.findStep .unit .begins) s).order = [.accrual, .lapse, .dockPort, .gap, .unitPort] := by decide +kernel

/-- Two offers with one deadline keep the order of their offer steps, and an earlier deadline goes ahead (R128). -/
theorem test_offer_order :
    (insertOffer { slot := 3, deadline := 5000 }
      [{ slot := 1, deadline := 4900 }, { slot := 2, deadline := 5000 }, { slot := 4, deadline := 5600 }]).map Offer.slot
      = [1, 2, 3, 4] := by decide

/-- A time is reached at its own second and for 2^31 s, across the wrap (R147). -/
theorem test_reached :
    reached 5 5 = true ∧ reached 4 5 = false ∧ reached 3 4294967290 = true ∧ secondsTo 4294967290 4 = 10 := by decide

/-- A second DEFROST START does not reload the shield (R44). -/
theorem test_defrost_repeated :
    (Compartment.startDefrost { front with defrost := .defrost, shieldLeft := 1 }).shieldLeft = 1 := by decide

/-- Blind seconds equal to the tolerance reach nothing; one more reaches UNPROVEN (R78). -/
theorem test_blind_strict : blindTest meat 1200 = [] ∧ blindTest meat 1201 = [.blind] := by decide

/-- A reading exactly at the hard ceiling or the freeze floor breaks the record; 5 xu short of the threshold is no watch,
and at the threshold it is (R80, R85). -/
theorem test_hard_inclusive :
    hardHighTest meat 100 = [.hardHigh] ∧ hardHighTest meat 99 = [] ∧ hardLowTest meat (-25) = [.hardLow]
      ∧ budgetTests meat 1999 0 = [] ∧ budgetTests meat 2000 0 = [.watchWarm]
      ∧ budgetTests meat 4001 0 = [.warmBudget, .watchWarm] := by decide

/-- READ RESULT on an IDLE port finds the EMPTY marker, and its close sets EMPTY_READ in that port's copy (R174). -/
theorem test_empty_read :
    let s := after (.readResult .dock 5) (after (.frameRead .dock 0x04) route)
    s.dockPort.reply = [0xF0, 0, 0, 0] ∧ s.dockPort.flags.getLsbD 37 = true ∧ s.unitPort.flags.getLsbD 37 = false := by
  decide +kernel

/-- A Dock RETIRE with FORCE is not permitted (R143). -/
theorem test_dock_force :
    (after (.retire .dock (List.replicate 12 0 ++ [0x01])) (opened .dock 0x24 .nothing route)).dockPort.lastRefusal
      = some { code := .notPermitted, command := 0x24, count := 14 } := by decide +kernel

/-- SET CLOCK moves a deadline with the clock (R149). -/
theorem test_set_clock :
    (after (.setClock .unit [0, 0, 0x1C, 0x84]) (opened .unit 0x49 .nothing (holding offeredA))).offers
      = [{ slot := 0, deadline := 7560 }] := by decide +kernel

/-- A tick missed while a pass runs raises OVERRUN and counts a lag of one (R61). -/
theorem test_missed_tick :
    let s := after .scanTick { route with clock := 7230, scanner := { route.scanner with phase := .charging } }
    s.scanner.lag = 1 ∧ s.unitPort.flags.getLsbD 34 = true ∧ s.scanner.nextTick = some 7260 := by decide +kernel

/-- A resume start begins its gap pass at once with the amount since the last snapshot (R154, R155). -/
theorem test_gap_amount :
    (after (.mainPowerReturn none)
      { after (.mainPowerLoss false) { route with lastSnapshotTime := 7170 } with clock := 7300 }).exposure.gapAmount
      = 130 := by decide +kernel

/-- No word spells a command. -/
theorem test_no_word : decodeTableWord 8 0x10 = none := rfl

/-! ### Witnesses: helpers -/

theorem holding_slots (r : Record) (j : SlotNo) : (holding r).slots[j] = if (0 : SlotNo) = j then some r else none := by
  show (put (Vector.replicate 128 none) (0 : SlotNo) (some r))[j] = _
  rw [put_get]
  simp

theorem holding_only {r q : Record} {j : SlotNo} (h : (holding r).slots[j] = some q) : (0 : SlotNo) = j ∧ r = q := by
  rw [holding_slots] at h
  split at h
  · exact ⟨by assumption, Option.some.inj h⟩
  · cases h

theorem holding_ids {r : Record} (h : r.id ≠ 0) : IdsRight (holding r) := by
  refine ⟨fun i q hq => ?_, fun i j q q' hq hq' _ => ?_⟩
  · obtain ⟨-, rfl⟩ := holding_only hq
    exact h
  · exact (holding_only hq).1.symm.trans (holding_only hq').1

/-- A state whose ports have nothing in flight, with no step in progress, has its ports right. -/
theorem quiet_ports {s : State} (hp : ∀ p : PortId, (s.port p).phase.inFlight = none) (he : s.engine = none)
    (hm : s.moveAll = none)
    (hf : ∀ (p : PortId) (fr : OpenFrame), (s.port p).frame = some fr → fr.capture = .nothing) : PortsRight s := by
  refine ⟨fun p cmd => ?_, ?_, ?_, fun p fr n h hc => ?_, fun m r h => ?_, fun fr h => ?_, fun st p h => ?_, fun _ => ⟨he, hm⟩⟩
  · simp only [he, reduceCtorEq, false_and, exists_false, iff_false]
    intro h
    have := hp p
    rw [h] at this
    cases this
  · rw [hm, show s.unitPort.phase.inFlight = none from hp .unit]
    simp
  · rw [show s.dockPort.phase.inFlight = none from hp .dock]
    simp
  · rw [hf p fr h] at hc
    cases hc
  · rw [hm] at h
    cases h
  · rw [hf .dock fr h]
    simp
  · rw [he] at h
    cases h

/-- A state with one port at a command of its own and a frame of no capture has its ports right. -/
theorem working_ports (p : PortId) (cmd : PortCommand) (h : cmd ≠ .moveAll) :
    PortsRight (atWork p cmd (opened p 0x06 .nothing route)) := by
  refine ⟨fun q c => ?_, ?_, ?_, fun q fr n hq hc => ?_, fun m r hm => ?_, fun fr hd => ?_, fun st q hs => ?_, fun hp => ?_⟩
  · cases p <;> cases q <;> constructor <;> intro hx
    · cases (show PortPhase.working cmd = .working c from hx)
      exact ⟨_, rfl, rfl, rfl⟩
    · obtain ⟨st, h1, -, h3⟩ := hx
      cases h1
      cases h3
      rfl
    · cases (show PortPhase.idle = .working c from hx)
    · obtain ⟨st, h1, -, h3⟩ := hx
      cases h1
      cases h3
    · cases (show PortPhase.idle = .working c from hx)
    · obtain ⟨st, h1, -, h3⟩ := hx
      cases h1
      cases h3
    · cases (show PortPhase.working cmd = .working c from hx)
      exact ⟨_, rfl, rfl, rfl⟩
    · obtain ⟨st, h1, -, h3⟩ := hx
      cases h1
      cases h3
      rfl
  · cases p
    · have : ((atWork .unit cmd (opened .unit 0x06 .nothing route)).unitPort.phase.inFlight) = some cmd := rfl
      rw [this]
      have : (atWork .unit cmd (opened .unit 0x06 .nothing route)).moveAll = none := rfl
      rw [this]
      simp [h]
    · have : ((atWork .dock cmd (opened .dock 0x06 .nothing route)).unitPort.phase.inFlight) = none := rfl
      rw [this]
      have : (atWork .dock cmd (opened .dock 0x06 .nothing route)).moveAll = none := rfl
      rw [this]
      simp
  · cases p
    · have : ((atWork .unit cmd (opened .unit 0x06 .nothing route)).dockPort.phase.inFlight) = none := rfl
      rw [this]
      simp
    · have : ((atWork .dock cmd (opened .dock 0x06 .nothing route)).dockPort.phase.inFlight) = some cmd := rfl
      rw [this]
      simp [h]
  · cases p <;> cases q <;> cases hq <;> cases hc
  · cases p <;> cases hm
  · cases p
    · cases hd
    · cases hd
      simp
  · cases p <;> cases hs <;> simp [h]
  · cases p <;> cases hp

/-! ### Witnesses: frames and direct commands -/

/-- A result to take, and the phases a port can be in. -/
def someResult : Result := { code := .ok, command := 0x14, data := [1, 2] }
def phases : List PortPhase := [.idle, .waiting .walkNext, .working .walkNext, .result someResult]

theorem witness_FrameReadCapturesTheReply :
    ∀ ph ∈ phases, ∀ code ∈ [0x00, 0x01, 0x02, 0x04, 0x05, 0x06, 0xFF],
      let s := route.setPhase .unit ph
      s.power = .present ∧ (s.port .unit).frame = none ∧ ¬(PortId.unit = .unit ∧ code = 0x05 ∧ s.moveAll.isSome = true) := by
  decide +kernel

theorem witness_UnlistedCodeIsRecordedAsUnknown :
    ∀ code ∈ [(0x00 : Byte), 0x07, 0x13, 0x4B, 0xFF], (opened .dock code .nothing route).frameOpen .dock code
      ∧ code.toNat ∉ [0x01, 0x02, 0x03, 0x04, 0x05, 0x06, 0x10, 0x11, 0x12, 0x14, 0x15, 0x16, 0x18, 0x19, 0x20, 0x21,
        0x22, 0x23, 0x24, 0x28, 0x30, 0x31, 0x38, 0x39, 0x3A, 0x3B, 0x40, 0x41, 0x48, 0x49, 0x4A] := by
  unfold State.frameOpen
  decide +kernel

/-- FIND of 11 and of 13 bytes of ID, DISCARD from the dock, and FIND on a busy port. -/
theorem witness_QueuedFrameRefusedInOrder :
    (∀ n ∈ [11, 13], ∃ f : QueuedFrame, queuedFrame (.find .unit (List.replicate n 0)) = some f
        ∧ (opened .unit 0x14 .nothing route).frameOpen f.port f.code ∧ f.bytes.length + 1 ≠ f.length)
      ∧ (∃ f : QueuedFrame, queuedFrame (.discard .dock (List.replicate 12 0)) = some f
        ∧ (opened .dock 0x12 .nothing route).frameOpen f.port f.code ∧ f.bytes.length + 1 = f.length
        ∧ f.permitted = false)
      ∧ ∃ f : QueuedFrame, queuedFrame (.find .unit (List.replicate 12 0)) = some f
        ∧ (opened .unit 0x14 .nothing (route.setPhase .unit (.waiting .walkNext))).frameOpen f.port f.code
        ∧ f.bytes.length + 1 = f.length ∧ f.permitted = true
        ∧ ((opened .unit 0x14 .nothing (route.setPhase .unit (.waiting .walkNext))).port f.port).phase.inFlight.isSome
          = true := by
  refine ⟨fun n hn => ?_, ⟨_, rfl, ⟨rfl, rfl⟩, rfl, rfl⟩, ⟨_, rfl, ⟨rfl, rfl⟩, rfl, rfl, rfl⟩⟩
  simp only [List.mem_cons, List.not_mem_nil, or_false] at hn
  rcases hn with rfl | rfl <;> exact ⟨_, rfl, ⟨rfl, rfl⟩, by decide⟩

theorem witness_PortStatusCloseClearsTheRefusal : (opened .unit 0x01 .nothing route).frameOpen .unit 0x01 := ⟨rfl, rfl⟩

theorem witness_PollLosesNoRaise :
    route.power = .present ∧ (route.port .dock).frame = none
      ∧ ∃ s' : State, exec (.frameRead .dock 0x02) route = .next s' := ⟨rfl, rfl, _, rfl⟩

theorem witness_PollCloseClearsWhatItReturned :
    (opened .dock 0x02 (.poll (BitVec.allOnes 38) (BitVec.twoPow 38 37)) route).frameIs .dock 0x02
      (.poll (BitVec.allOnes 38) (BitVec.twoPow 38 37)) := ⟨rfl, rfl⟩

/-- Mask bytes of the length of SET FLAG MASK, one fewer and one more; and the last flag's place. -/
theorem witness_FlagMaskStoredAsCarried :
    (opened .unit 0x03 .nothing route).frameOpen .unit 0x03 ∧ (List.replicate 10 (0xFF : Byte)).length = 10
      ∧ (List.replicate 9 (0xFF : Byte)).length ≠ 10 ∧ (List.replicate 11 (0xFF : Byte)).length ≠ 10
      ∧ 8 * 4 + 5 < 38 := by
  exact ⟨⟨rfl, rfl⟩, rfl, by decide, by decide, by decide⟩

theorem witness_ReadResultTakesWhatItFound :
    (opened .unit 0x04 (.result .waiting 2) (route.setPhase .unit (.result someResult))).frameIs .unit 0x04
        (.result .waiting 2)
      ∧ (opened .unit 0x04 (.result .notReady 0) (route.setPhase .unit (.waiting .walkNext))).frameIs .unit 0x04
        (.result .notReady 0)
      ∧ (opened .unit 0x04 (.result .empty 0) route).frameIs .unit 0x04 (.result .empty 0) :=
  ⟨⟨rfl, rfl⟩, ⟨rfl, rfl⟩, ⟨rfl, rfl⟩⟩

/-- A MOVE ALL in flight from compartment 2 to 1, at some slot and under some hold. -/
def walking (i : SlotNo) (h : Hold) (s : State) : State :=
  { s with
    moveAll := some { source := 2, dest := 1, next := i, count := 0, hold := h }
    unitPort := { s.unitPort with phase := .waiting .moveAll } }

/-- A slot step of it in progress. -/
def walkStepping (i : SlotNo) (h : Hold) (s : State) : State :=
  (performing (.moveAllSlot 2 1 i) (walking i h s)).setPhase .unit (.working .moveAll)

theorem witness_CancelHoldsTheWalkAtItsRead :
    ∀ h ∈ [Hold.free, .held, .stopping], ∃ (s : State) (m m' : MoveAllRecord) (t : State),
      s.power = .present ∧ s.unitPort.frame = none ∧ s.moveAll = some m ∧ m.hold = h
        ∧ exec (.frameRead .unit 0x05) s = .next t ∧ t.moveAll = some m' ∧ t.unitPort.phase = .waiting .moveAll := by
  intro h hh
  simp only [List.mem_cons, List.not_mem_nil, or_false] at hh
  rcases hh with rfl | rfl | rfl
  · exact ⟨walking 3 .free route, _, _, _, rfl, rfl, rfl, rfl, rfl, rfl, rfl⟩
  · exact ⟨walking 3 .held route, _, _, _, rfl, rfl, rfl, rfl, rfl, rfl, rfl⟩
  · exact ⟨walking 3 .stopping route, _, _, _, rfl, rfl, rfl, rfl, rfl, rfl, rfl⟩

/-- CANCEL's close with its mark clear; with no walk left; between slot steps; during one; and refused under each hold. -/
theorem witness_CancelCloseEndsOrReleasesTheWalk :
    (opened .dock 0x05 (.cancel false) route).frameIs .dock 0x05 (.cancel false)
      ∧ ((opened .unit 0x05 (.cancel true) route).frameIs .unit 0x05 (.cancel true)
        ∧ (opened .unit 0x05 (.cancel true) route).moveAll = none)
      ∧ (∀ h ∈ [Hold.held, .free, .stopping, .ended someResult], ∃ (s : State) (m : MoveAllRecord),
        s.frameIs .unit 0x05 (.cancel true) ∧ s.moveAll = some m ∧ m.hold = h ∧ s.engine = none)
      ∧ ∃ (s : State) (m : MoveAllRecord) (st : StepInProgress), s.frameIs .unit 0x05 (.cancel true) ∧ s.moveAll = some m
        ∧ s.engine = some st ∧ st.discarded = false ∧ ∃ (a b : Byte) (i : SlotNo), st.work = .moveAllSlot a b i := by
  refine ⟨⟨rfl, rfl⟩, ⟨⟨rfl, rfl⟩, rfl⟩, fun h _ => ?_, ?_⟩
  · exact ⟨opened .unit 0x05 (.cancel true) (walking 3 h route), _, ⟨rfl, rfl⟩, rfl, rfl, rfl⟩
  · exact ⟨opened .unit 0x05 (.cancel true) (walkStepping 3 .held route), _, _, ⟨rfl, rfl⟩, rfl, rfl, rfl, _, _, _, rfl⟩

theorem opened_quiet (p : PortId) (code : Byte) : PortsRight (opened p code .nothing route) := by
  refine quiet_ports (fun q => ?_) ?_ ?_ (fun q fr h => ?_)
  · cases p <;> cases q <;> rfl
  · cases p <;> rfl
  · cases p <;> rfl
  · cases p <;> cases q <;> cases h <;> rfl

/-- PORT RESET of an idle port, of one at a FIND, and of one at a walk step. -/
theorem witness_PortResetEndsThePortsWork :
    ((opened .dock 0x06 .nothing route).frameOpen .dock 0x06 ∧ PortsRight (opened .dock 0x06 .nothing route))
      ∧ (∃ s : State, s.frameOpen .unit 0x06 ∧ PortsRight s ∧ (s.port .unit).phase = .working (.find 7)
        ∧ ∃ st : StepInProgress, s.engine = some st
          ∧ (∀ f : Option WalkFilter, st.work ≠ .port .unit (.walk f)) ∧ st.work ≠ .port .unit .walkNext)
      ∧ ∃ (s : State) (st : StepInProgress), s.frameOpen .dock 0x06 ∧ PortsRight s ∧ s.engine = some st
        ∧ st.work = .port .dock .walkNext := by
  refine ⟨⟨⟨rfl, rfl⟩, opened_quiet _ _⟩, ?_, ?_⟩
  · exact ⟨atWork .unit (.find 7) (opened .unit 0x06 .nothing route), ⟨rfl, rfl⟩, working_ports _ _ (by simp), rfl, _,
      rfl, by simp, by simp⟩
  · exact ⟨atWork .dock .walkNext (opened .dock 0x06 .nothing route), _, ⟨rfl, rfl⟩, working_ports _ _ (by simp), rfl,
      rfl⟩

theorem witness_PortResetOfAnotherLengthIsRefused :
    (opened .unit 0x06 .nothing route).frameOpen .unit 0x06 ∧ (1 : Nat) ≠ 2 ∧ (3 : Nat) ≠ 2 :=
  ⟨⟨rfl, rfl⟩, by decide, by decide⟩

theorem witness_FramesLeaveTheOtherPort :
    framePort (.readClock .unit []) = some .unit ∧ PortId.dock ≠ .unit ∧ PortsRight (opened .unit 0x48 .nothing route)
      ∧ ∃ t : State, exec (.readClock .unit []) (opened .unit 0x48 .nothing route) = .next t :=
  ⟨rfl, by decide, opened_quiet _ _, _, rfl⟩

/-! ### Witnesses: queued commands at their close -/

theorem witness_FrameFieldsReadByTheirBits :
    (65535 < 256 ^ 2) ∧ (0 < 256 ^ 0) ∧ (4294967295 < 256 ^ 4) ∧ (-32768 : Int) ≤ -32768 ∧ (32767 : Int) ≤ 32767
      ∧ SettingsRight { active := true, simulant := false, air := true, airOffset := -50, holdLimit := 15,
                        doorLimit := 3600, ceiling := -400, shieldBase := 255, recoveryLength := 255 } := by
  unfold SettingsRight TempRight
  decide

/-- A frame of every queued command that waits for a table step. -/
def waitingFrames : List Instr :=
  [.admitFresh .unit (List.replicate 14 1), .admitCarried .dock (List.replicate 78 1), .discard .unit (List.replicate 12 1),
   .find .dock (List.replicate 12 1), .walk .unit [0, 7, 0], .walk .dock [4, 7, 3], .walk .dock [5, 7, 0],
   .walkNext .unit [],
   .move .unit (List.replicate 13 1 ++ [0]), .moveTrial .unit (List.replicate 14 1), .offer .dock (List.replicate 14 1),
   .withdraw .unit (List.replicate 12 1), .confirm .dock (List.replicate 16 1), .readStatement .unit (List.replicate 12 1),
   .retire .unit (List.replicate 13 1), .retire .dock (List.replicate 12 1 ++ [0]),
   .setClass .unit (1 :: 0 :: List.replicate 21 1), .setClassUnset .unit (List.replicate 23 1),
   .setCompartment .unit (4 :: List.replicate 10 0), .setUnitId .unit [1, 2]]

theorem witness_StepCommandsWaitWhenAccepted :
    ∀ c ∈ waitingFrames, ∃ (f : QueuedFrame) (cmd : PortCommand), queuedFrame c = some f ∧ waitsAs c = some cmd
      ∧ (opened f.port f.code .nothing route).accepts f := by
  intro c hc
  simp only [waitingFrames, List.mem_cons, List.not_mem_nil, or_false] at hc
  rcases hc with rfl | rfl | rfl | rfl | rfl | rfl | rfl | rfl | rfl | rfl | rfl | rfl | rfl | rfl | rfl | rfl | rfl | rfl
    | rfl | rfl <;> exact ⟨_, _, rfl, rfl, ⟨rfl, rfl⟩, rfl, rfl, rfl⟩

theorem witness_MoveAllAcceptedAtSlotZero :
    (opened .unit 0x19 .nothing route).accepts ⟨.unit, 0x19, 3, true, false, [2, 1]⟩ := ⟨⟨rfl, rfl⟩, rfl, rfl, rfl⟩

theorem witness_UnknownCompartmentRefusedAtAcceptance :
    (∀ b ∈ [(5 : Byte), 255], 4 < (byteAt 0 [b, 7, 0]).toNat
        ∧ (opened .dock 0x15 .nothing route).accepts ⟨.dock, 0x15, 4, true, true, [b, 7, 0]⟩)
      ∧ (∀ b ∈ [(0 : Byte), 5], (byteAt 0 (b :: List.replicate 10 0)).toNat ∉ [1, 2, 3, 4]
        ∧ (opened .unit 0x38 .nothing route).accepts ⟨.unit, 0x38, 12, true, false, b :: List.replicate 10 0⟩)
      ∧ ∀ b ∈ [(0 : Byte), 5], (byteAt 0 [b]).toNat ∉ [1, 2, 3, 4]
        ∧ (opened .dock 0x39 .nothing route).accepts ⟨.dock, 0x39, 2, true, true, [b]⟩ := by
  refine ⟨fun b hb => ⟨?_, ⟨rfl, rfl⟩, rfl, rfl, rfl⟩, fun b hb => ⟨?_, ⟨rfl, rfl⟩, rfl, rfl, rfl⟩,
    fun b hb => ⟨?_, ⟨rfl, rfl⟩, rfl, rfl, rfl⟩⟩ <;> revert b <;> decide

/-- Timeouts 0, 9, 10, 3,600 and 3,601. -/
theorem witness_OfferTimeoutStoredClamped :
    ∀ b ∈ [[(0 : Byte), 0], [0, 9], [0, 10], [0x0E, 0x10], [0x0E, 0x11]],
      (opened .unit 0x28 .nothing route).accepts ⟨.unit, 0x28, 3, true, false, b⟩ := by
  intro b hb
  simp only [List.mem_cons, List.not_mem_nil, or_false] at hb
  rcases hb with rfl | rfl | rfl | rfl | rfl <;> exact ⟨⟨rfl, rfl⟩, rfl, rfl, rfl⟩

/-- Periods 0, 1, 50 and 51 are all carried by such a frame. -/
theorem witness_ScanPeriodStoredClamped (b : Byte) :
    (opened .unit 0x40 .nothing route).accepts ⟨.unit, 0x40, 2, true, false, [b]⟩ := ⟨⟨rfl, rfl⟩, rfl, rfl, rfl⟩

theorem witness_ReadingCommandsAnswerAtOnce :
    (opened .dock 0x31 .nothing route).accepts ⟨.dock, 0x31, 2, true, true, [7]⟩
      ∧ ((byteAt 0 [(4 : Byte)]).toNat = (3 : CompNo).val + 1
        ∧ (opened .dock 0x39 .nothing route).accepts ⟨.dock, 0x39, 2, true, true, [4]⟩)
      ∧ (opened .unit 0x41 .nothing route).accepts ⟨.unit, 0x41, 1, true, false, []⟩
      ∧ (opened .dock 0x48 .nothing route).accepts ⟨.dock, 0x48, 1, true, true, []⟩ :=
  ⟨⟨⟨rfl, rfl⟩, rfl, rfl, rfl⟩, ⟨rfl, ⟨rfl, rfl⟩, rfl, rfl, rfl⟩, ⟨⟨rfl, rfl⟩, rfl, rfl, rfl⟩, ⟨⟨rfl, rfl⟩, rfl, rfl, rfl⟩⟩

/-- Compartment 1, ACTIVE, and compartment 4, OFF. -/
theorem witness_SetCompartmentActiveStoresAtOnce :
    ∀ c ∈ [(0 : CompNo), 3], ∃ bytes : List Byte,
      (opened .unit 0x38 .nothing route).accepts ⟨.unit, 0x38, 12, true, false, bytes⟩
        ∧ (byteAt 0 bytes).toNat = c.val + 1 ∧ (byteAt 1 bytes).getLsbD 0 = true
        ∧ ((opened .unit 0x38 .nothing route).comps[c].settings.active = decide (c = 0)) := by
  intro c hc
  simp only [List.mem_cons, List.not_mem_nil, or_false] at hc
  rcases hc with rfl | rfl
  · exact ⟨1 :: 1 :: List.replicate 9 0, ⟨⟨rfl, rfl⟩, rfl, rfl, rfl⟩, rfl, rfl, by decide +kernel⟩
  · exact ⟨4 :: 1 :: List.replicate 9 0, ⟨⟨rfl, rfl⟩, rfl, rfl, rfl⟩, rfl, rfl, by decide +kernel⟩

/-- Bytes 0, 5 and 4 (OFF) name no ACTIVE compartment; byte 1 does. -/
theorem witness_DefrostStartByItsTable :
    let s := opened .unit 0x3A .nothing route
    (∀ b ∈ [(0 : Byte), 4, 5], s.accepts ⟨.unit, 0x3A, 2, true, false, [b]⟩
        ∧ ∀ c : CompNo, b.toNat = c.val + 1 → s.comps[c].settings.active = false)
      ∧ s.accepts ⟨.unit, 0x3A, 2, true, false, [1]⟩ ∧ (1 : Byte).toNat = (0 : CompNo).val + 1
      ∧ s.comps[(0 : CompNo)].settings.active = true := by
  refine ⟨fun b hb => ⟨⟨⟨rfl, rfl⟩, rfl, rfl, rfl⟩, ?_⟩, ⟨⟨rfl, rfl⟩, rfl, rfl, rfl⟩, rfl, by decide +kernel⟩
  revert b
  decide +kernel

theorem witness_DefrostEndByItsTable :
    let s := opened .unit 0x3B .nothing route
    (∀ b ∈ [(0 : Byte), 4, 5], s.accepts ⟨.unit, 0x3B, 2, true, false, [b]⟩
        ∧ ∀ c : CompNo, b.toNat = c.val + 1 → s.comps[c].settings.active = false)
      ∧ s.accepts ⟨.unit, 0x3B, 2, true, false, [1]⟩ ∧ (1 : Byte).toNat = (0 : CompNo).val + 1
      ∧ s.comps[(0 : CompNo)].settings.active = true := by
  refine ⟨fun b hb => ⟨⟨⟨rfl, rfl⟩, rfl, rfl, rfl⟩, ?_⟩, ⟨⟨rfl, rfl⟩, rfl, rfl, rfl⟩, rfl, by decide +kernel⟩
  revert b
  decide +kernel

/-- SET CLOCK to 7,300: behind a step, at once with a record OFFERED, and as its event. -/
theorem witness_SetClockShiftsEveryHeldTime :
    let b : List Byte := [0, 0, 0x1C, 0x84]
    b.length = 4 ∧ (7300 : RouteTime) = BitVec.ofNat 32 (beNat b)
      ∧ (let s := performing .accrual (opened .unit 0x49 .nothing route)
         s.accepts ⟨.unit, 0x49, 5, true, false, b⟩ ∧ s.engine ≠ none)
      ∧ (let s := opened .unit 0x49 .nothing (holding offeredA)
         s.engine = none ∧ s.accepts ⟨.unit, 0x49, 5, true, false, b⟩ ∧ s.slots[(0 : SlotNo)] = some offeredA
          ∧ (∃ o ∈ s.offers, o.slot = 0) ∧ s.slots[(127 : SlotNo)] = none)
      ∧ (let s := route.setPhase .unit (.waiting (.setClock 7300))
         s.engine = none ∧ s.power = .present ∧ s.unitPort.phase = .waiting (.setClock 7300)) := by
  refine ⟨rfl, by decide, ⟨⟨⟨rfl, rfl⟩, rfl, rfl, rfl⟩, nofun⟩,
    ⟨rfl, ⟨⟨rfl, rfl⟩, rfl, rfl, rfl⟩, by decide +kernel, ⟨{ slot := 0, deadline := 7460 }, ?_, rfl⟩, by decide +kernel⟩,
    ⟨rfl, rfl, rfl⟩⟩
  show _ ∈ [({ slot := 0, deadline := 7460 } : Offer)]
  exact List.mem_singleton.mpr rfl

/-! ### Witnesses: the table engine -/

theorem witness_GrantGoesToTheHighestWaiting :
    (∃ (s : State) (p : PortId) (cmd : PortCommand) (row : StepPhase → Instr), s.power = .present ∧ s.engine = none
        ∧ (∀ v : RouteTime, s.unitPort.phase ≠ .waiting (.setClock v)) ∧ s.order.find? s.stepWaiting = some (requesterOf p)
        ∧ (s.port p).phase = .waiting cmd ∧ stepRow p cmd = some row)
      ∧ (∃ (s : State) (m : MoveAllRecord), s.power = .present ∧ s.engine = none
        ∧ (∀ v : RouteTime, s.unitPort.phase ≠ .waiting (.setClock v)) ∧ s.order.find? s.stepWaiting = some .unitPort
        ∧ s.unitPort.phase = .waiting .moveAll ∧ s.moveAll = some m)
      ∧ ∀ r ∈ [Requester.accrual, .lapse, .gap], ∃ s : State, s.power = .present ∧ s.engine = none
        ∧ (∀ v : RouteTime, s.unitPort.phase ≠ .waiting (.setClock v)) ∧ s.order.find? s.stepWaiting = some r := by
  refine ⟨⟨route.setPhase .dock (.waiting .walkNext), .dock, .walkNext, _, rfl, rfl, fun _ => nofun,
      by decide +kernel, rfl, rfl⟩, ⟨walking 3 .free route, _, rfl, rfl, fun _ => nofun, by decide +kernel, rfl, rfl⟩,
    fun r hr => ?_⟩
  simp only [List.mem_cons, List.not_mem_nil, or_false] at hr
  rcases hr with rfl | rfl | rfl
  · exact ⟨{ route with exposure := { route.exposure with passTag := some 21 } }, rfl, rfl, fun _ => nofun,
      by decide +kernel⟩
  · exact ⟨{ holding offeredA with clock := 7460, lapseWaiting := true }, rfl, rfl, fun _ => nofun,
      by decide +kernel⟩
  · exact ⟨{ route with exposure := { route.exposure with gapEnd := some 7200 } }, rfl, rfl, fun _ => nofun,
      by decide +kernel⟩

theorem witness_NothingGrantedOutOfTurn :
    grantTo (.gapVisit .begins) = some .gap ∧ grantTo (.findStep .dock .begins) = some .dockPort
      ∧ (after (.mainPowerLoss false) route).power = .lost
      ∧ (performing .accrual route).engine ≠ none
      ∧ (∃ v : RouteTime, (route.setPhase .unit (.waiting (.setClock 5))).unitPort.phase = .waiting (.setClock v))
      ∧ route.order.find? route.stepWaiting ≠ some .gap :=
  ⟨rfl, rfl, by decide +kernel, nofun, ⟨5, rfl⟩, by decide +kernel⟩

/-- The gap pass waiting below a waiting port: the Dock Port's walk step is granted ahead of it. -/
def twoWaiting : State :=
  { route.setPhase .dock (.waiting .walkNext) with exposure := { route.exposure with gapEnd := some 7200 } }

/-- A grant that moves a waiting requester up, and one of a requester at the highest place. -/
theorem witness_GrantMovesTheWaitingUp :
    (OrderRight twoWaiting ∧ grantTo (.walkStep .dock .begins) = some .dockPort ∧ twoWaiting.engine = none
        ∧ (∃ t : State, exec (.walkStep .dock .begins) twoWaiting = .next t ∧ t.engine ≠ none)
        ∧ twoWaiting.stepWaiting .gap = true ∧ Requester.dockPort ≠ .gap)
      ∧ ∃ s t : State, OrderRight s ∧ s.order.idxOf Requester.accrual = 0 ∧ s.stepWaiting .accrual = true
        ∧ s.engine = none ∧ exec (.accrualVisit .begins) s = .next t ∧ t.engine ≠ none := by
  refine ⟨⟨List.Perm.refl _, rfl, rfl, ⟨_, rfl, by decide +kernel⟩, by decide +kernel, by decide⟩, ?_⟩
  exact ⟨{ route with exposure := { route.exposure with passTag := some 21 } }, _, List.Perm.refl _, rfl, rfl, rfl, rfl,
    by decide +kernel⟩

theorem witness_OrderMovesOnlyAtAGrant :
    powerRow (.walkStep .dock .begins) = false ∧ ∃ t : State, exec (.walkStep .dock .begins) twoWaiting = .next t :=
  ⟨rfl, _, rfl⟩

/-- The gap pass waits while one step of the Dock Port begins and ends. -/
theorem witness_AtMostFourGrantsAhead :
    OrderRight twoWaiting
      ∧ grantsAhead .gap [.walkStep .dock .begins, .walkStep .dock .ends, .gapVisit .begins] twoWaiting = 1 :=
  ⟨List.Perm.refl _, by decide +kernel⟩

theorem free_of_find {s : State} {id : ConsignmentId} (h : s.findId id = none) : s.idFree id := findId_none.mp h

/-- An ID not held, and the all-zero ID. -/
theorem witness_UnheldIdIsNotFound :
    stepRow .dock (.find 7) = some (.findStep .dock) ∧ namedId (.find 7) = some 7
      ∧ (atWork .dock (.find 7) (holding recordA)).stepIs .dock (.find 7) route.inputs
      ∧ (atWork .dock (.find 7) (holding recordA)).idFree 7 ∧ (atWork .dock (.find 0) (holding recordA)).idFree 0 :=
  ⟨rfl, rfl, ⟨rfl, rfl⟩, free_of_find (by decide +kernel), free_of_find (by decide +kernel)⟩

theorem witness_WrongStateIsRefused :
    stepRow .unit (.withdraw 12345) = some (.withdrawStep .unit) ∧ namedId (.withdraw 12345) = some 12345
      ∧ (atWork .unit (.withdraw 12345) (holding recordA)).stepIs .unit (.withdraw 12345) route.inputs
      ∧ IdsRight (atWork .unit (.withdraw 12345) (holding recordA))
      ∧ (atWork .unit (.withdraw 12345) (holding recordA)).idAt 12345 0 recordA
      ∧ stateFits (.withdraw 12345) recordA.custody = false :=
  ⟨rfl, rfl, ⟨rfl, rfl⟩, holding_ids (by decide), ⟨holding_slots _ _, rfl⟩, rfl⟩

theorem witness_DiscardedStepPlacesNoResult :
    stepRow .unit .walkNext = some (.walkStep .unit) ∧ (atWork .unit .walkNext route).stepIs .unit .walkNext route.inputs
      ∧ ∃ t : State, exec (.walkStep .unit .ends) (atWork .unit .walkNext route) = .next t :=
  ⟨rfl, ⟨rfl, rfl⟩, _, rfl⟩

/-! ### Witnesses: reading the table -/

theorem witness_FindAnswersTheSummary :
    (atWork .dock (.find 12345) (holding recordA)).stepIs .dock (.find 12345) route.inputs
      ∧ IdsRight (atWork .dock (.find 12345) (holding recordA))
      ∧ (atWork .dock (.find 12345) (holding recordA)).idAt 12345 0 recordA :=
  ⟨⟨rfl, rfl⟩, holding_ids (by decide), holding_slots _ _, rfl⟩

theorem figures_of_live {r : Record} (l : LiveFields) (h : r.live = some l) (hd : l.doorStored ≤ 65535)
    (hn : r.warm ≤ 16777215 ∧ r.cold ≤ 16777215 ∧ r.excursion ≤ 4294967295 ∧ r.blind ≤ 4294967295 ∧ r.lapses ≤ 255) :
    FiguresRight r := by
  refine ⟨hn.1, hn.2.1, hn.2.2.1, hn.2.2.2.1, hn.2.2.2.2, fun m hm => ?_, fun f hf => ?_⟩
  · rw [h] at hm
    cases hm
    exact hd
  · simp [Record.live, hf, Custody.live] at h

/-- An ABOARD record; an OFFERED one; and deadlines 3,600 s off, one second off, now, a second ago, and 2^31 − 1 s ago. -/
theorem witness_SummaryHoldsTheRecord :
    FiguresRight recordA ∧ (∀ (l : LiveFields) (d : RouteTime), recordA.custody ≠ .offered l d)
      ∧ FiguresRight offeredA ∧ offeredA.custody = .offered { doorStored := 0, doorBase := 6, tag := 20 } 7460
      ∧ ((7460 : RouteTime) - 3860).toNat ≤ 3600 ∧ 2147483648 ≤ ((3860 : RouteTime) - 7460).toNat
      ∧ ((7460 : RouteTime) - 7459).toNat ≤ 3600 ∧ 2147483648 ≤ ((7459 : RouteTime) - 7460).toNat
      ∧ ((7460 : RouteTime) - 7460).toNat < 2147483648 ∧ ((7461 : RouteTime) - 7460).toNat < 2147483648
      ∧ ((2147491107 : RouteTime) - 7460).toNat < 2147483648 := by
  refine ⟨figures_of_live _ rfl (by decide) (by decide), ?_, figures_of_live _ rfl (by decide) (by decide), rfl,
    by decide +kernel⟩
  intro l d h
  cases h

/-- A filter that matches any record. -/
def anyRecord : WalkFilter := { comp := none, aboard := true, offered := true, closed := true, least := .intact }

/-- WALK with A in slot 0; WALK NEXT from slot 1 and at cursor 128, with no match left. -/
theorem witness_WalkReportsTheFirstMatch :
    (let s := atWork .dock (.walk (some anyRecord)) (holding recordA)
     s.stepIs .dock (.walk (some anyRecord)) route.inputs ∧ s.slots[(0 : SlotNo)] = some recordA ∧ Matches anyRecord recordA)
      ∧ ∀ cursor ∈ [1, 128],
        let u := holding recordA
        let s := atWork .unit .walkNext { u with unitPort := { u.unitPort with cursor := cursor, filter := some anyRecord } }
        s.stepIs .unit .walkNext route.inputs ∧ (s.port .unit).filter = some anyRecord ∧ cursor = (s.port .unit).cursor
          ∧ ∀ (j : SlotNo) (q : Record), cursor ≤ j.val → s.slots[j] = some q → ¬Matches anyRecord q := by
  refine ⟨⟨⟨rfl, rfl⟩, holding_slots _ _, ⟨fun _ => nofun, rfl, by decide⟩⟩, fun cursor hc => ?_⟩
  refine ⟨⟨rfl, rfl⟩, rfl, rfl, fun j q hj hq => ?_⟩
  have h0 : (0 : SlotNo) = j := (holding_only hq).1
  subst h0
  simp only [List.mem_cons, List.not_mem_nil, or_false] at hc
  rcases hc with rfl | rfl <;> simp at hj

theorem witness_WalkNextWithoutAFilterIsRefused :
    (atWork .dock .walkNext route).stepIs .dock .walkNext route.inputs ∧ ((atWork .dock .walkNext route).port .dock).filter = none :=
  ⟨⟨rfl, rfl⟩, rfl⟩

/-- A walk step of a WALK that names no compartment: of one accepted with the value 5. -/
theorem witness_WalkNamingNoCompartmentIsRefused :
    (atWork .dock (.walk none) route).stepIs .dock (.walk none) route.inputs
      ∧ waitsAs (.walk .dock [5, 7, 0]) = some (.walk none) := ⟨⟨rfl, rfl⟩, rfl⟩

/-! ### Witnesses: admission -/

theorem active_front : namesActive route.inputs 1 0 := by
  unfold namesActive
  decide +kernel

theorem active_rear : namesActive route.inputs 2 1 := by
  unfold namesActive
  decide +kernel

theorem none_active : ∀ b ∈ [(0 : Byte), 3, 4, 5], ∀ c : CompNo, ¬namesActive route.inputs b c := by
  unfold namesActive
  decide +kernel

/-- A table with no FREE slot. -/
def full : State := { route with slots := Vector.replicate 128 (some recordA) }

/-- Each check of a fresh ADMIT: a zero ID, a compartment OFF or out of range, an UNSET class, a held ID, a full table. -/
theorem witness_AdmitChecksInOrder :
    (atWork .unit (.admitFresh 7 2 1) route).stepIs .unit (.admitFresh 7 2 1) route.inputs
      ∧ (∀ b ∈ [(0 : Byte), 3, 4, 5], ∀ c : CompNo, ¬namesActive route.inputs b c) ∧ namesActive route.inputs 1 0
      ∧ route.classes[(0 : ClassNo)] = none ∧ route.classes[(2 : ClassNo)] = some dairy
      ∧ ¬(holding recordA).idFree 12345 ∧ full.idFree 7 ∧ ∀ i : SlotNo, full.slots[i] ≠ none := by
  refine ⟨⟨rfl, rfl⟩, none_active, active_front, by decide +kernel, by decide +kernel, fun h => ?_,
    free_of_find (by decide +kernel), by decide +kernel⟩
  exact h 0 recordA (holding_slots _ _) rfl

/-- A's statement: one that verifies, and names an ID other than 0. -/
def statementOfA : List Byte := closedStatement recordClosed closedA

/-- Each check of a carried ADMIT of it, and of a statement of the all-zero ID that verifies. -/
theorem witness_CarriedAdmitChecksInOrder :
    (∀ (st : List Byte) (cls : ClassNo) (comp : Byte), (atWork .dock (.admitCarried st cls comp) route).stepIs .dock
        (.admitCarried st cls comp) route.inputs)
      ∧ (let st := closedStatement { recordClosed with id := 0 } (closedA.withCheck { recordClosed with id := 0 })
         verifies st = true ∧ BitVec.ofNat 96 (natAt 4 12 st) = 0)
      ∧ verifies statementOfA = true ∧ BitVec.ofNat 96 (natAt 4 12 statementOfA) = 12345
      ∧ (∀ b ∈ [(0 : Byte), 3, 4, 5], ∀ c : CompNo, ¬namesActive route.inputs b c) ∧ namesActive route.inputs 1 0
      ∧ route.classes[(0 : ClassNo)] = none ∧ route.classes[(2 : ClassNo)] = some dairy
      ∧ ¬(holding recordA).idFree 12345
      ∧ (let s := { full with slots := Vector.replicate 128 (some { recordA with id := 7 }) }
         s.idFree 12345 ∧ ∀ i : SlotNo, s.slots[i] ≠ none) := by
  refine ⟨fun _ _ _ => ⟨rfl, rfl⟩, by decide +kernel, by decide +kernel, by decide +kernel, none_active, active_front,
    by decide +kernel, by decide +kernel, fun h => ?_, free_of_find (by decide +kernel), by decide +kernel⟩
  exact h 0 recordA (holding_slots _ _) rfl

/-- The lowest FREE slot 1, with A in slot 0. -/
theorem witness_FreshAdmissionWritesItsRecord :
    let s := atWork .unit (.admitFresh 7 2 1) (holding recordA)
    s.stepIs .unit (.admitFresh 7 2 1) route.inputs ∧ (7 : ConsignmentId) ≠ 0 ∧ namesActive route.inputs 1 0
      ∧ s.classes[(2 : ClassNo)] ≠ none ∧ s.idFree 7 ∧ s.slots[(1 : SlotNo)] = none
      ∧ ∀ j : SlotNo, j < 1 → s.slots[j] ≠ none :=
  ⟨⟨rfl, rfl⟩, by decide, active_front, by decide +kernel, free_of_find (by decide +kernel), by decide +kernel,
    by decide +kernel⟩

theorem witness_UnverifiedStatementIsRefused :
    (atWork .dock (.admitCarried [] 2 1) route).stepIs .dock (.admitCarried [] 2 1) route.inputs ∧ verifies [] = false :=
  ⟨⟨rfl, rfl⟩, by decide⟩

/-- A's statement presented to the next vehicle. -/
theorem witness_CarriedAdmissionTakesTheStatement :
    let st := closedStatement recordClosed closedA
    let s := atWork .dock (.admitCarried st 2 1) route
    s.stepIs .dock (.admitCarried st 2 1) route.inputs ∧ verifies st = true ∧ BitVec.ofNat 96 (natAt 4 12 st) ≠ 0
      ∧ namesActive route.inputs 1 0 ∧ s.classes[(2 : ClassNo)] = some dairy ∧ s.idFree (BitVec.ofNat 96 (natAt 4 12 st))
      ∧ s.slots[(0 : SlotNo)] = none ∧ ∀ j : SlotNo, j < 0 → s.slots[j] ≠ none :=
  ⟨⟨rfl, rfl⟩, by decide +kernel, by decide +kernel, active_front, by decide +kernel, free_of_find (by decide +kernel),
    by decide +kernel, fun j h => absurd h (Fin.not_lt_zero j)⟩

theorem witness_DiscardFreesTheSlot :
    let s := atWork .unit (.discard 12345) (holding recordA)
    s.stepIs .unit (.discard 12345) route.inputs ∧ IdsRight s ∧ s.idAt 12345 0 recordA
      ∧ recordA.custody = .aboard { doorStored := 0, doorBase := 6, tag := 20 } :=
  ⟨⟨rfl, rfl⟩, holding_ids (by decide), ⟨holding_slots _ _, rfl⟩, rfl⟩

/-! ### Witnesses: moves -/

/-- Destinations 0, 3 (OFF), 5, the record's own compartment, and another. -/
theorem witness_MoveFoldsTheDoorExposures :
    (∀ dest : Byte, (atWork .unit (.move 12345 dest) (holding recordA)).stepIs .unit (.move 12345 dest) route.inputs)
      ∧ IdsRight (holding recordA) ∧ (holding recordA).idAt 12345 0 recordA
      ∧ recordA.custody = .aboard { doorStored := 0, doorBase := 6, tag := 20 }
      ∧ (∀ b ∈ [(0 : Byte), 3, 4, 5], ∀ c : CompNo, ¬namesActive route.inputs b c)
      ∧ (namesActive route.inputs 1 0 ∧ (0 : CompNo) = recordA.comp) ∧ namesActive route.inputs 2 1
      ∧ (1 : CompNo) ≠ recordA.comp :=
  ⟨fun _ => ⟨rfl, rfl⟩, holding_ids (by decide), ⟨holding_slots _ _, rfl⟩, rfl, none_active, ⟨active_front, rfl⟩,
    active_rear, by decide⟩

theorem witness_TrialAnswersAndChangesNothing :
    (atWork .unit (.moveTrial 12345 2) (holding recordA)).stepIs .unit (.moveTrial 12345 2) route.inputs
      ∧ IdsRight (holding recordA) ∧ (holding recordA).idAt 12345 0 recordA
      ∧ recordA.live = some { doorStored := 0, doorBase := 6, tag := 20 }
      ∧ (∀ b ∈ [(0 : Byte), 3, 4, 5], ∀ c : CompNo, ¬namesActive route.inputs b c)
      ∧ namesActive route.inputs 2 1 ∧ (holding recordA).classes[recordA.cls] = some dairy
      ∧ route.inputs.comps[(1 : CompNo)].snapshot = rear.snapshot :=
  ⟨⟨rfl, rfl⟩, holding_ids (by decide), ⟨holding_slots _ _, rfl⟩, rfl, none_active, active_rear, by decide +kernel,
    by decide +kernel⟩

/-- A stands in the source; in another compartment; and a walk from slot 0 that fails its start checks. -/
theorem witness_MoveAllStepMovesOneRecord :
    (performing (.moveAllSlot 1 2 0) (holding recordA)).workIs (.moveAllSlot 1 2 0) route.inputs
      ∧ (1 : Byte).toNat = (0 : CompNo).val + 1 ∧ namesActive route.inputs 2 1
      ∧ (performing (.moveAllSlot 1 2 0) (holding recordA)).slots[(0 : SlotNo)] = some recordA ∧ recordA.comp = 0
      ∧ ((performing (.moveAllSlot 2 1 0) (holding recordA)).workIs (.moveAllSlot 2 1 0) route.inputs ∧ recordA.comp ≠ 1)
      ∧ (performing (.moveAllSlot 2 2 0) (holding recordA)).workIs (.moveAllSlot 2 2 0) route.inputs :=
  ⟨⟨rfl, rfl⟩, rfl, active_rear, holding_slots _ _, rfl, ⟨⟨rfl, rfl⟩, by decide⟩, ⟨rfl, rfl⟩⟩

/-- Slots 0, 126 and 127 under each hold, and at slot 0 start checks that fail. -/
theorem witness_MoveAllStepSettlesTheWalk :
    (∀ (i : SlotNo) (h : Hold), ∃ m : MoveAllRecord,
        (walkStepping i h route).workIs (.moveAllSlot 2 1 i) (walking i h route).inputs
          ∧ (walkStepping i h route).moveAll = some m ∧ m.hold = h)
      ∧ (∃ ca cb : CompNo, namesActive route.inputs 2 ca ∧ namesActive route.inputs 1 cb ∧ ca ≠ cb)
      ∧ ¬∃ ca cb : CompNo, namesActive route.inputs 3 ca ∧ namesActive route.inputs 1 cb ∧ ca ≠ cb := by
  refine ⟨fun i h => ⟨_, ⟨rfl, rfl⟩, rfl, rfl⟩, ⟨1, 0, active_rear, active_front, by decide⟩, ?_⟩
  rintro ⟨ca, cb, h, -⟩
  exact none_active 3 (by decide) ca h

/-- The port reset as a slot step is in progress: of a walk alone, and with another accepted since. -/
theorem witness_DiscardedSlotStepMakesItsMoveAlone :
    (performing (.moveAllSlot 1 2 0) (holding recordA)).workIs (.moveAllSlot 1 2 0) route.inputs
      ∧ (performing (.moveAllSlot 1 2 0) (walking 0 .free (holding recordA))).workIs (.moveAllSlot 1 2 0) route.inputs
      ∧ ∃ t : State, exec (.moveAllSlot .ends) (performing (.moveAllSlot 1 2 0) (holding recordA)) = .next t :=
  ⟨⟨rfl, rfl⟩, ⟨rfl, rfl⟩, _, rfl⟩

/-! ### Witnesses: handover and closing -/

/-- OFFER with 15 and with 16 entries queued. -/
theorem witness_OfferQueuesTheRecord :
    ∀ n ∈ [15, 16], ∃ s : State, s.stepIs .dock (.offer 12345 60) route.inputs ∧ IdsRight s ∧ s.idAt 12345 0 recordA
      ∧ recordA.custody = .aboard { doorStored := 0, doorBase := 6, tag := 20 } ∧ s.offers.length = n := by
  intro n hn
  refine ⟨atWork .dock (.offer 12345 60)
    { holding recordA with offers := List.replicate n { slot := 1, deadline := 9000 } }, ⟨rfl, rfl⟩,
    holding_ids (r := recordA) (by decide), ⟨holding_slots _ _, rfl⟩, rfl, ?_⟩
  exact List.length_replicate

theorem witness_NewOfferStandsBehindEqualDeadlines :
    let q : List Offer := [{ slot := 1, deadline := 4294967290 }, { slot := 2, deadline := 5 }]
    (∀ x ∈ ({ slot := 3, deadline := 5 } : Offer) :: q, (x.deadline - 4294967290).toNat < 2147483648)
      ∧ q.Pairwise (fun x y => notLater x.deadline y.deadline = true) := by decide

theorem witness_WithdrawReturnsTheRecord :
    let s := atWork .unit (.withdraw 12345) (holding offeredA)
    s.stepIs .unit (.withdraw 12345) (holding offeredA).inputs ∧ IdsRight s ∧ s.idAt 12345 0 offeredA
      ∧ offeredA.custody = .offered { doorStored := 0, doorBase := 6, tag := 20 } 7460 :=
  ⟨⟨rfl, rfl⟩, holding_ids (by decide), ⟨holding_slots _ _, rfl⟩, rfl⟩

theorem holding_offers {s : State} (h : s.slots = (holding offeredA).slots) (ho : s.offers = (holding offeredA).offers) :
    OffersRight s := by
  have hq : s.offers = [{ slot := 0, deadline := 7460 }] := ho
  refine ⟨by rw [hq]; decide, by rw [hq]; decide, fun o hm => ?_, fun i r l d hr hc => ?_⟩
  · rw [hq] at hm
    obtain rfl := List.mem_singleton.mp hm
    rw [h]
    exact ⟨offeredA, _, holding_slots _ _, rfl⟩
  · rw [h] at hr
    obtain ⟨rfl, rfl⟩ := holding_only hr
    cases hc
    rw [hq]
    exact List.mem_singleton.mpr rfl

/-- The head deadline one second off and just reached, and the lapse step in progress. -/
theorem witness_LapseTakesTheHeadOffer :
    (holding offeredA).power = .present ∧ (holding offeredA).offers = [{ slot := 0, deadline := 7460 }]
      ∧ lapseDue { holding offeredA with clock := 7459 } [{ slot := 0, deadline := 7460 }] = false
      ∧ lapseDue { holding offeredA with clock := 7460 } [{ slot := 0, deadline := 7460 }] = true
      ∧ (performing .lapse (holding offeredA)).workIs .lapse (holding offeredA).inputs
      ∧ OffersRight (performing .lapse (holding offeredA))
      ∧ (performing .lapse (holding offeredA)).slots[(0 : SlotNo)] = some offeredA :=
  ⟨rfl, rfl, by decide +kernel, by decide +kernel, ⟨rfl, rfl⟩, holding_offers rfl rfl, holding_slots _ _⟩

/-- CONFIRM with unit identity 4,606, and with 0. -/
theorem witness_ConfirmClosesTheRecord :
    let s := atWork .dock (.confirm 12345 90001) (holding offeredA)
    s.stepIs .dock (.confirm 12345 90001) (holding offeredA).inputs ∧ IdsRight s ∧ s.idAt 12345 0 offeredA
      ∧ s.classes[offeredA.cls] = some dairy ∧ s.unitId ≠ 0
      ∧ (atWork .dock (.confirm 12345 90001) { holding offeredA with unitId := 0 }).unitId = 0 :=
  ⟨⟨rfl, rfl⟩, holding_ids (by decide), ⟨holding_slots _ _, rfl⟩, by decide +kernel, by decide, rfl⟩

theorem figures_closed : FiguresRight recordClosed := by
  refine ⟨by decide, by decide, by decide, by decide, by decide, fun l hl => ?_, fun f hf => ?_⟩
  · cases hl
  · cases hf
    decide +kernel

/-- The copy of the dairy class, and one without low limits. -/
theorem limits_of_a : LimitsRight closedA.limits ∧ LimitsRight { closedA.limits with low := none } := by
  refine ⟨⟨⟨by decide, by decide⟩, ⟨by decide, by decide⟩, ?_, by decide, by decide⟩,
    ⟨by decide, by decide⟩, ⟨by decide, by decide⟩, ?_, by decide, by decide⟩
  · rintro l ⟨⟩
    exact ⟨⟨by decide, by decide⟩, ⟨by decide, by decide⟩⟩
  · rintro l ⟨⟩

theorem witness_ClosedStatementReadsBack :
    FiguresRight recordClosed ∧ CauseAgrees recordClosed ∧ OptTempRight recordClosed.peakHigh
      ∧ OptTempRight recordClosed.peakLow ∧ recordClosed.custody = .closed closedA ∧ closedA.scanPeriod ≤ 50
      ∧ LimitsRight closedA.limits ∧ LimitsRight { closedA.limits with low := none } := by
  refine ⟨figures_closed, ⟨rfl, rfl⟩, ?_, ?_, rfl, by decide, limits_of_a⟩ <;>
  · rintro x ⟨⟩
    exact ⟨by decide, by decide⟩

/-- Words at both ends of their range, one of them changed. -/
theorem witness_CheckWordCompletesTheSum :
    let words := [0, 65535, 513]
    (∀ w ∈ words, w ≤ 65535) ∧ words = [0, 65535] ++ 513 :: [] ∧ 65535 ≤ 65535 ∧ (65535 : Nat) ≠ 513
      ∧ (65535 : Nat) + 65535 ≠ 513 ∧ 513 + 65535 ≠ 65535 := by decide

theorem witness_ReadStatementMarksAClosedRecord :
    (let s := atWork .dock (.readStatement 12345) (holding recordClosed)
     s.stepIs .dock (.readStatement 12345) (holding recordClosed).inputs ∧ IdsRight s ∧ s.idAt 12345 0 recordClosed
      ∧ recordClosed.custody = .closed closedA)
      ∧ let s := atWork .unit (.readStatement 12345) (holding recordA)
        s.stepIs .unit (.readStatement 12345) route.inputs ∧ IdsRight s ∧ s.idAt 12345 0 recordA
          ∧ recordA.live = some { doorStored := 0, doorBase := 6, tag := 20 } ∧ s.classes[recordA.cls] = some dairy :=
  ⟨⟨⟨rfl, rfl⟩, holding_ids (by decide), ⟨holding_slots _ _, rfl⟩, rfl⟩, ⟨rfl, rfl⟩, holding_ids (by decide),
    ⟨holding_slots _ _, rfl⟩, rfl, by decide +kernel⟩

theorem witness_RetireFreesAReadStatement :
    ∀ force : Bool, let s := atWork .unit (.retire 12345 force) (holding recordClosed)
      s.stepIs .unit (.retire 12345 force) (holding recordClosed).inputs ∧ IdsRight s ∧ s.idAt 12345 0 recordClosed
        ∧ recordClosed.custody = .closed closedA :=
  fun _ => ⟨⟨rfl, rfl⟩, holding_ids (by decide), ⟨holding_slots _ _, rfl⟩, rfl⟩

/-! ### Witnesses: classes, compartments and the identity -/

/-- SET CLASS of a class in use; of one out of order; of ordered values within their ranges; of values to be clamped. -/
theorem witness_ClassTestStoresAnUnusedClass :
    (∀ (k : ClassNo) (v : CarriedClass),
        (atWork .unit (.setClass k v) (holding recordA)).stepIs .unit (.setClass k v) route.inputs)
      ∧ (∀ k : ClassNo, (atWork .unit (.setClassUnset k) (holding recordA)).stepIs .unit (.setClassUnset k) route.inputs)
      ∧ 0 < (holding recordA).useCount[(2 : ClassNo)] ∧ (holding recordA).useCount[(3 : ClassNo)] = 0
      ∧ (let v : CarriedClass := { upper := 50, hard := 50, lower := -32768, floor := 0, warmBudget := 0, coldBudget := 0,
                                   watchPercent := 50, tolerance := 0 }
         v.clamped.ordered = false)
      ∧ (let v : CarriedClass := { upper := 499, hard := 500, lower := -399, floor := -400, warmBudget := 16000000,
                                   coldBudget := 0, watchPercent := 95, tolerance := 86400 }
         v.clamped.ordered = true ∧ v.adjusted = false)
      ∧ let v : CarriedClass := { upper := 50, hard := 501, lower := -32768, floor := 0, warmBudget := 16000001,
                                  coldBudget := 0, watchPercent := 9, tolerance := 86401 }
        v.clamped.ordered = true ∧ v.adjusted = true := by
  refine ⟨fun _ _ => ⟨rfl, rfl⟩, fun _ => ⟨rfl, rfl⟩, ?_⟩
  decide +kernel

/-- Switching off compartment 1, occupied, and compartment 2, empty. -/
theorem witness_CompartmentTestSwitchesOff :
    (∀ c : CompNo, (atWork .unit (.setCompartmentOff c .initial) (holding recordA)).stepIs .unit
        (.setCompartmentOff c .initial) route.inputs)
      ∧ Settings.initial.active = false ∧ 0 < (holding recordA).occupancy[(0 : CompNo)]
      ∧ (holding recordA).occupancy[(1 : CompNo)] = 0 :=
  ⟨fun _ => ⟨rfl, rfl⟩, rfl, by decide +kernel, by decide +kernel⟩

theorem witness_TableTestStoresTheIdentity :
    (atWork .unit (.setUnitId 0) (holding recordA)).stepIs .unit (.setUnitId 0) route.inputs
      ∧ (∃ i : SlotNo, (atWork .unit (.setUnitId 0) (holding recordA)).slots[i] ≠ none)
      ∧ (atWork .unit (.setUnitId 65535) route).stepIs .unit (.setUnitId 65535) route.inputs
      ∧ ∀ i : SlotNo, (atWork .unit (.setUnitId 65535) route).slots[i] = none :=
  ⟨⟨rfl, rfl⟩, ⟨0, by decide +kernel⟩, ⟨rfl, rfl⟩, by decide +kernel⟩

/-! ### Witnesses: doors and scans -/

/-- Compartment 1 ACTIVE with its line at either level; compartment 4 OFF; and no main power. -/
theorem witness_DoorEventsFollowTheLine :
    route.power = .present ∧ route.comps[(0 : CompNo)].settings.active = true
      ∧ route.comps[(3 : CompNo)].settings.active = false ∧ route.doorLines[(0 : CompNo)] = false
      ∧ (after (.doorOpens 0) route).doorLines[(0 : CompNo)] = true ∧ (after (.mainPowerLoss true) route).power = .lost := by
  decide +kernel

/-- Door 1 open since 7,240: its deadline 7,540 one second off, reached, absent; and the door closed. -/
theorem witness_DoorLongReportedOnce :
    let s := after (.doorOpens 0) { route with clock := 7240 }
    s.power = .present ∧ s.comps[(0 : CompNo)].doorOpen = true ∧ s.comps[(0 : CompNo)].doorDeadline = some 7540
      ∧ ((7540 : RouteTime) - 7540).toNat < 2147483648 ∧ 2147483648 ≤ ((7539 : RouteTime) - 7540).toNat
      ∧ (after (.doorLong 0) { s with clock := 7540 }).comps[(0 : CompNo)].doorDeadline = none
      ∧ route.comps[(0 : CompNo)].doorOpen = false := by
  decide +kernel

/-- The tick at 7,230 one second off, reached in IDLE with probes in service and with none, and reached in CHARGING. -/
theorem witness_ReachedTickStartsOrMissesAScan :
    route.power = .present ∧ route.scanner.nextTick = some 7230 ∧ 2147483648 ≤ ((7229 : RouteTime) - 7230).toNat
      ∧ ((7230 : RouteTime) - 7230).toNat < 2147483648 ∧ route.scanner.phase = .idle ∧ route.scanList ≠ []
      ∧ State.reset.scanner.nextTick = some 30 ∧ State.reset.scanList = []
      ∧ (after .scanTick { State.reset with clock := 30 }).scanner.phase ≠ .idle := by
  decide +kernel

/-- The route's scan 21, whose probes are 0, 1 and 2. -/
def scanning : State := after .scanTick { route with clock := 7230 }

theorem witness_PollEndsWithItsOutcome :
    scanning.power = .present ∧ scanning.scanner.phase = .polling ∧ scanning.scanner.toPoll = [0, 1, 2]
      ∧ (after .probeSilent (after .probeSilent scanning)).scanner.toPoll = [2] ∧ (1 : ProbeNo) ≠ 0
      ∧ servedBy (scanning.comps[(0 : CompNo)]).settings 0 = true ∧ scanning.probes[(0 : ProbeNo)].steady = true := by
  decide +kernel

/-- ACTIVE and OFF compartments; and in both copies a flag that the forming raises: BLIND of an unread compartment. -/
theorem witness_FormingRequestsThePass :
    route.comps[(0 : CompNo)].settings.active = true ∧ route.comps[(3 : CompNo)].settings.active = false
      ∧ (5 : ProbeNo).val = 2 * (2 : CompNo).val + 1
      ∧ (let s := State.formSnapshots
          { route with comps := put route.comps 0 { front with lastGood := none } }
         s.unitPort.flags.getLsbD 2 = true ∧ s.dockPort.flags.getLsbD 2 = true) := by
  decide +kernel

/-- The air reading set aside by a door or a defrost; a held count one below and at its limit. -/
theorem witness_SourceChosenByTheTable :
    (front.doorOpen = false ∧ front.defrost ≠ .defrost) ∧ front.lastGood = some 42 ∧ front.held < front.settings.holdLimit
      ∧ (let x := { front with held := 2, doorOpen := true }
         ¬(x.doorOpen = false ∧ x.defrost ≠ .defrost) ∧ x.settings.holdLimit ≤ x.held) := by
  decide

theorem front_right : CompRight front := by
  refine ⟨by decide, by decide, by decide, by decide, by decide, fun h => by cases h⟩

/-- NORMAL; in recovery with one snapshot left; and in DEFROST with the last shielded snapshot. -/
theorem witness_ShieldSpentAtTheSnapshot :
    CompRight front ∧ CompRight { front with defrost := .recovery, recoveryLeft := 1, shieldLeft := 2 }
      ∧ CompRight { front with defrost := .defrost, shieldLeft := 1 } := by
  refine ⟨front_right, ?_, ?_⟩ <;>
  exact ⟨by decide, by decide, by decide, by decide, by decide, fun h => by cases h⟩

/-! ### Witnesses: exposure -/

/-- A pass at tag 21 over slot 0, A carrying 20 there; and one at tag 20, whose tag A already carries. -/
def visiting (g : ScanTag) : State :=
  performing .accrual { holding recordA with exposure := { route.exposure with passTag := some g } }

theorem witness_AccrualVisitChargesByTheStages :
    (∀ g : ScanTag, (visiting g).workIs .accrual route.inputs ∧ (visiting g).exposure.passTag = some g)
      ∧ (visiting 21).slots[(0 : SlotNo)] = some recordA ∧ recordA.live = some { doorStored := 0, doorBase := 6, tag := 20 }
      ∧ (20 : ScanTag) ≠ 21 ∧ (visiting 21).classes[recordA.cls] = some dairy
      ∧ route.inputs.comps[recordA.comp].snapshot = front.snapshot
      ∧ (∀ n : Snapshot, front.snapshot = some n → n.reading.temp = some 42)
      ∧ ({ reading := .blind, span := 5, doorOpen := false, shielded := false, takenAt := 0 } : Snapshot).reading.temp
        = none := by
  refine ⟨fun _ => ⟨⟨rfl, rfl⟩, rfl⟩, holding_slots _ _, rfl, by decide, by decide +kernel, by decide +kernel, ?_, rfl⟩
  rintro n ⟨⟩
  rfl

/-- The cursor at 126 and at 127, the latter with no tick missed and with one, with probes in service and with none. -/
theorem witness_AccrualPassEndsAfterItsLastSlot :
    (127 : SlotNo).val = (126 : SlotNo).val + 1
      ∧ ({ route with exposure := { route.exposure with accrualCursor := 127 } }).exposure.accrualCursor.val = 127
      ∧ route.scanner.lag = 0 ∧ 0 < ({ route with scanner := { route.scanner with lag := 1 } }).scanner.lag
      ∧ route.scanList ≠ [] ∧ State.reset.scanList = [] := by
  decide +kernel

/-- A gap pass at slot 0, which holds A, exempt or not; and at slot 127. -/
theorem witness_GapVisitChargesBlindTime :
    let e : ExposureEngine := { route.exposure with gapEnd := some 7300, gapAmount := 130 }
    let s := performing .gap { holding recordA with exposure := e }
    let u := performing .gap { holding recordA with exposure := { e with gapExempt := put e.gapExempt 0 true } }
    s.workIs .gap route.inputs ∧ s.exposure.gapExempt[(0 : SlotNo)] = false ∧ s.slots[(0 : SlotNo)] = some recordA
      ∧ recordA.live = some { doorStored := 0, doorBase := 6, tag := 20 } ∧ s.classes[recordA.cls] = some dairy
      ∧ u.workIs .gap route.inputs ∧ u.exposure.gapExempt[(0 : SlotNo)] = true
      ∧ recordClosed.live = none
      ∧ (let v := { s with exposure := { e with gapCursor := 127 } }
         v.exposure.gapCursor.val = 127 ∧ v.exposure.gapEnd = some 7300) :=
  ⟨⟨rfl, rfl⟩, by decide +kernel, holding_slots _ _, rfl, by decide +kernel, ⟨rfl, rfl⟩, by decide +kernel, rfl, rfl, rfl⟩

/-! ### Witnesses: main power -/

/-- A loss with no step in progress, with a port's and a slot step, discarded or not, and with an accrual visit. -/
theorem witness_PowerLossKeepsTheRetentionDomain :
    route.power = .present ∧ route.engine = none
      ∧ (∀ d : Bool, ∃ s : State, s.power = .present
        ∧ s.engine = some { work := .port .unit (.discard 12345), inputs := route.inputs, discarded := d }
        ∧ stepRow .unit (.discard 12345) = some .discardStep ∧ ∃ u : State, exec (.discardStep .ends) s = .next u)
      ∧ (∃ u : State, exec (.accrualVisit .ends) (visiting 21) = .next u)
      ∧ ((Instr.gapVisit .ends, StepWork.gap) ∈
        [(Instr.accrualVisit .ends, StepWork.accrual), (.gapVisit .ends, .gap), (.lapseStep .ends, .lapse)])
      ∧ ∀ d : Bool, ∃ s : State, s.power = .present
        ∧ s.engine = some { work := .moveAllSlot 1 2 0, inputs := route.inputs, discarded := d }
        ∧ ∃ u : State, exec (.moveAllSlot .ends) s = .next u := by
  refine ⟨rfl, rfl, fun d => ?_, ⟨_, rfl⟩, by decide, fun d => ?_⟩
  · exact ⟨{ holding recordA with
      engine := some { work := .port .unit (.discard 12345), inputs := route.inputs, discarded := d } }, rfl, rfl, rfl,
      _, rfl⟩
  · exact ⟨{ holding recordA with
      engine := some { work := .moveAllSlot 1 2 0, inputs := route.inputs, discarded := d } }, rfl, rfl, _, rfl⟩

/-- Main power lost with the mark set, and with it cleared by the failure of the supply. -/
theorem witness_PowerReturnStartsByTheMark :
    let s := after (.mainPowerLoss true) route
    s.power = .lost ∧ s.valid = true ∧ (after .retentionSupplyFails s).power = .lost
      ∧ (after .retentionSupplyFails s).valid = false ∧ s.comps[(0 : CompNo)].settings.active = true
      ∧ s.comps[(3 : CompNo)].settings.active = false := by
  decide +kernel

/-! ### Witnesses: the invariants -/

/-- The route with A aboard, a door opening next in the queue. -/
def onRoute (r : Record) : State := { holding r with pending := [.doorOpens 0] }

theorem onRoute_steps (r : Record) : ∃ t : State, step (onRoute r) = .next t := ⟨_, rfl⟩

theorem onRoute_quiet (r : Record) : PortsRight (onRoute r) := by
  refine quiet_ports (fun q => ?_) rfl rfl (fun q fr h => ?_)
  · cases q <;> rfl
  · cases q <;> cases h

theorem witness_EveryStepKeepsTheEngineRight :
    OrderRight (onRoute recordA) ∧ PortsRight (onRoute recordA) ∧ ∃ t : State, step (onRoute recordA) = .next t :=
  ⟨List.Perm.refl _, onRoute_quiet _, onRoute_steps _⟩

theorem witness_EveryStepKeepsIdsDistinct :
    IdsRight (onRoute recordA) ∧ ∃ t : State, step (onRoute recordA) = .next t :=
  ⟨holding_ids (by decide), onRoute_steps _⟩

theorem witness_EveryStepKeepsTheCountsAndTheirUse :
    CountsRight (onRoute recordA) ∧ UseRight (onRoute recordA) ∧ ∃ t : State, step (onRoute recordA) = .next t := by
  refine ⟨⟨by decide +kernel, by decide +kernel⟩, ⟨fun i r l hr _ => ?_, fun st h => ?_⟩, onRoute_steps _⟩
  · obtain ⟨-, rfl⟩ := holding_only hr
    exact ⟨by decide +kernel, by decide +kernel⟩
  · cases h

theorem witness_EveryStepKeepsTheOfferQueue :
    OffersRight (onRoute offeredA) ∧ ∃ t : State, step (onRoute offeredA) = .next t :=
  ⟨holding_offers rfl rfl, onRoute_steps _⟩

theorem front_temps : CompTempsRight front := by
  refine ⟨?_, ?_⟩
  · rintro x ⟨⟩
    exact ⟨by decide, by decide⟩
  · rintro n ⟨⟩ x ⟨⟩
    exact ⟨by decide, by decide⟩

theorem rear_temps : CompTempsRight rear := by
  refine ⟨?_, ?_⟩
  · rintro x ⟨⟩
    exact ⟨by decide, by decide⟩
  · rintro n ⟨⟩ x ⟨⟩
    exact ⟨by decide, by decide⟩

theorem initial_temps : CompTempsRight Compartment.initial := by
  refine ⟨?_, ?_⟩
  · rintro x ⟨⟩
  · rintro n ⟨⟩

/-- The four compartments of the route. -/
theorem route_comps : route.comps[(0 : CompNo)] = front ∧ route.comps[(1 : CompNo)] = rear
    ∧ route.comps[(2 : CompNo)] = .initial ∧ route.comps[(3 : CompNo)] = .initial := by decide +kernel

theorem comp_cases (P : Compartment → Prop) (hf : P front) (hr : P rear) (hi : P .initial) :
    ∀ c : CompNo, P route.comps[c] := by
  obtain ⟨h0, h1, h2, h3⟩ := route_comps
  intro c
  fin_cases c
  · exact h0 ▸ hf
  · exact h1 ▸ hr
  · exact h2 ▸ hi
  · exact h3 ▸ hi

theorem route_scanner : ScannerRight route.scanner := by
  refine ⟨⟨by decide, by decide⟩, ⟨by decide, by decide⟩, by decide, by decide, ?_⟩
  rintro n ⟨⟩

/-- The scanner and the compartments of the route, within their ranges. -/
theorem route_ranges (r : Record) : RangesRight (onRoute r) := by
  refine ⟨?_, route_scanner, (by decide : 10 ≤ 600 ∧ 600 ≤ 3600), fun st h => by cases h⟩
  refine comp_cases (fun x => SettingsRight x.settings ∧ x.held ≤ 15 ∧ TempRight x.ceilingInForce
      ∧ ∀ n : Snapshot, x.snapshot = some n → SpanRight n.span) ?_ ?_ ?_
  all_goals
    refine ⟨by unfold SettingsRight TempRight; decide, by decide, ⟨by decide, by decide⟩, ?_⟩
    rintro n ⟨⟩
    try exact ⟨by decide, by decide⟩

/-- A offered to 7,460 at 7,200, the queue in order. -/
theorem witness_OfferQueueStaysInOrder :
    RangesRight (onRoute offeredA) ∧ DeadlinesNear (onRoute offeredA) ∧ OffersOrdered (onRoute offeredA)
      ∧ (onRoute offeredA).pending.head? ≠ some .routeClockSecond ∧ ∃ t : State, step (onRoute offeredA) = .next t := by
  refine ⟨route_ranges _, ⟨?_, fun st h => by cases h⟩, ?_, by decide, onRoute_steps _⟩
  · show ∀ o ∈ [({ slot := 0, deadline := 7460 } : Offer)], ((7200 : RouteTime) + 3600 - o.deadline).toNat < 2147483648
    decide
  · exact List.pairwise_singleton _ _

theorem witness_EveryStepKeepsTheRecordsRight :
    RecordsRight (onRoute recordClosed) ∧ JudgementsRight (onRoute recordClosed) ∧ TempsRight (onRoute recordClosed)
      ∧ ∃ t : State, step (onRoute recordClosed) = .next t := by
  refine ⟨fun i r h => ?_, fun i r h => ?_, ⟨?_, comp_cases _ front_temps rear_temps initial_temps, fun i r h => ?_,
    fun st h => by cases h⟩, onRoute_steps _⟩
  · obtain ⟨-, rfl⟩ := holding_only h
    exact figures_closed
  · obtain ⟨-, rfl⟩ := holding_only h
    exact ⟨rfl, rfl⟩
  · intro n x hx
    have : (onRoute recordClosed).probes[n].reading = none := by
      show (Vector.replicate 8 Probe.outOfService)[n].reading = none
      simp [Probe.outOfService]
    rw [this] at hx
    cases hx
  · obtain ⟨-, rfl⟩ := holding_only h
    refine ⟨?_, ?_⟩ <;>
    · rintro x ⟨⟩
      exact ⟨by decide, by decide⟩

theorem witness_EveryStepKeepsClosedStatementsVerifying :
    ClosedRight (onRoute recordClosed) ∧ ∃ t : State, step (onRoute recordClosed) = .next t := by
  refine ⟨fun i r f h hc => ?_, onRoute_steps _⟩
  obtain ⟨-, rfl⟩ := holding_only h
  cases hc
  decide +kernel

theorem rear_right : CompRight rear := by
  refine ⟨by decide, by decide, by decide, by decide, by decide, fun h => by cases h⟩

theorem initial_right : CompRight Compartment.initial := by
  refine ⟨by decide, by decide, by decide, by decide, by decide, fun _ => by decide⟩

theorem meat_right : ClassRight meat := by
  refine ⟨⟨by decide, by decide⟩, ⟨by decide, by decide⟩, by decide, ?_, by decide, by decide, by decide, by decide,
    by decide⟩
  rintro l ⟨⟩
  exact ⟨⟨by decide, by decide⟩, ⟨by decide, by decide⟩, by decide, by decide⟩

theorem dairy_right : ClassRight dairy := by
  refine ⟨⟨by decide, by decide⟩, ⟨by decide, by decide⟩, by decide, ?_, by decide, by decide, by decide, by decide,
    by decide⟩
  rintro l ⟨⟩
  exact ⟨⟨by decide, by decide⟩, ⟨by decide, by decide⟩, by decide, by decide⟩

theorem route_comps_right (r : Record) : CompsRight (onRoute r) :=
  comp_cases (fun x => CompRight x ∧ (route.power = .present → x.snapshot.isSome = x.active))
    ⟨front_right, fun _ => rfl⟩ ⟨rear_right, fun _ => rfl⟩ ⟨initial_right, fun _ => rfl⟩

/-- The route with A closed aboard; and a switching-off that waits. -/
theorem witness_EveryStepKeepsClassesAndCompartments :
    ClassesRight (onRoute recordClosed) ∧ CompsRight (onRoute recordClosed) ∧ RangesRight (onRoute recordClosed)
      ∧ OffCommandsRight (onRoute recordClosed) ∧ ClosedLimitsRight (onRoute recordClosed)
      ∧ (∃ t : State, step (onRoute recordClosed) = .next t) ∧ CarriesOff .initial := by
  refine ⟨fun k v h => ?_, route_comps_right _, route_ranges _,
    ⟨fun p c v h => (by cases p <;> cases h), fun st p c v h => (by cases h)⟩, fun i r f h hc => ?_, onRoute_steps _,
    ⟨rfl, by decide, by decide⟩⟩
  · have hk : ∀ k : ClassNo, route.classes[k] = none ∨ route.classes[k] = some meat ∨ route.classes[k] = some dairy := by
      decide +kernel
    have hv : route.classes[k] = some v := h
    rcases hk k with h' | h' | h' <;> rw [h'] at hv <;> cases hv
    · exact meat_right
    · exact dairy_right
  · obtain ⟨-, rfl⟩ := holding_only h
    cases hc
    exact ⟨limits_of_a.1, by decide, by decide⟩

theorem witness_NothingFallsAndClosedRecordsAreFrozen :
    RecordsRight (onRoute recordClosed) ∧ (onRoute recordClosed).slots[(0 : SlotNo)] = some recordClosed
      ∧ (∃ t : State, step (onRoute recordClosed) = .next t) ∧ recordClosed.custody = .closed closedA :=
  ⟨witness_EveryStepKeepsTheRecordsRight.1, holding_slots _ _, onRoute_steps _, rfl⟩

/-- A with the current tag on the route, no pass in flight; and with the tag before in a pass, its visit in progress. -/
theorem witness_EveryStepKeepsChargedTags :
    TagsRight (onRoute recordA) ∧ UseRight (onRoute recordA) ∧ CompsRight (onRoute recordA)
      ∧ ∃ t : State, step (onRoute recordA) = .next t := by
  refine ⟨⟨fun i r l hr hl => ?_, by decide, nofun, nofun, fun st h => by cases h⟩,
    witness_EveryStepKeepsTheCountsAndTheirUse.2.1, route_comps_right _, onRoute_steps _⟩
  obtain ⟨-, rfl⟩ := holding_only hr
  cases hl
  exact ⟨.inl rfl, fun _ => ⟨nofun, nofun, fun _ _ => rfl⟩⟩

/-- The route's pass 21 at slot 0, A there carrying 20 and its visit ending. -/
def charging : State :=
  performing .accrual
    { holding recordA with
      pending := [.accrualVisit .ends]
      scanner := { route.scanner with tag := 21, phase := .charging, span := some 5 }
      exposure := { route.exposure with passTag := some 21 } }

theorem witness_ChargedOncePerTag :
    TagsRight charging ∧ charging.slots[(0 : SlotNo)] = some recordA
      ∧ recordA.live = some { doorStored := 0, doorBase := 6, tag := 20 }
      ∧ ∃ t : State, step charging = .next t ∧ ∃ q : Record, t.slots[(0 : SlotNo)] = some q := by
  refine ⟨⟨fun i r l hr hl => ?_, by decide, ?_, nofun, fun st h => ?_⟩, holding_slots _ _, rfl, _, rfl, ?_⟩
  · obtain ⟨rfl, rfl⟩ := holding_only hr
    cases hl
    exact ⟨.inr (by decide), fun _ => ⟨fun _ h => absurd h (by decide), nofun, nofun⟩⟩
  · rintro g ⟨⟩
    rfl
  · cases h
    refine ⟨.inl rfl, fun _ => ⟨rfl, fun i r l hr _ => ?_⟩, nofun⟩
    obtain ⟨-, rfl⟩ := holding_only hr
    decide +kernel
  · exact Option.isSome_iff_exists.mp (by decide +kernel)

end Sys2Proof.Tests
end

section
/-!
PROOFS. FIND, WALK and WALK NEXT in their steps (R14, R16, R18, R19).
-/
namespace Sys2Proof.Machine

/-! ### The slot a walk stops at (R18) -/

/-- Whether a walk stops at a slot: it is at or above the cursor and its record matches. -/
theorem walkTest_iff (s : State) (f : WalkFilter) (cursor : Nat) (i : SlotNo) :
    (decide (cursor ≤ i.val) && s.slots[i].any f.matchesRecord) = true
      ↔ cursor ≤ i.val ∧ ∃ r : Record, s.slots[i] = some r ∧ Matches f r := by
  rw [Bool.and_eq_true, decide_eq_true_eq, Option.any_eq_true]
  simp only [matchesRecord_iff]

/-- A walk stops at the first slot from its cursor whose record matches. -/
theorem walkMatch_some {s : State} {f : WalkFilter} {cursor : Nat} {i : SlotNo} {r : Record} (hi : cursor ≤ i.val)
    (hr : s.slots[i] = some r) (hm : Matches f r)
    (hfirst : ∀ (j : SlotNo) (q : Record), cursor ≤ j.val → j < i → s.slots[j] = some q → ¬Matches f q) :
    s.walkMatch f cursor = some i := by
  rw [State.walkMatch, find_slot_some]
  refine ⟨(walkTest_iff s f cursor i).mpr ⟨hi, r, hr, hm⟩, fun j hj => Bool.eq_false_iff.mpr fun ht => ?_⟩
  obtain ⟨hc, q, hq, hmq⟩ := (walkTest_iff s f cursor j).mp ht
  exact hfirst j q hc hj hq hmq

/-- A walk from a cursor past every match examines all the slots and stops at none. -/
theorem walkMatch_none {s : State} {f : WalkFilter} {cursor : Nat}
    (hnone : ∀ (j : SlotNo) (q : Record), cursor ≤ j.val → s.slots[j] = some q → ¬Matches f q) :
    s.walkMatch f cursor = none := by
  rw [State.walkMatch, find_slot_none]
  refine fun j => Bool.eq_false_iff.mpr fun ht => ?_
  obtain ⟨hc, q, hq, hmq⟩ := (walkTest_iff s f cursor j).mp ht
  exact hnone j q hc hq hmq

/-! ### The walk's work from a cursor with a filter (R18, R19) -/

/-- The state a walk examines the slots in: its port holds the filter and the cursor to start from. -/
def State.walkingFrom (s : State) (p : PortId) (f : WalkFilter) (start : Nat) : State :=
  s.setPort p { s.port p with cursor := start, filter := some f }

@[simp] theorem State.walkingFrom_slots (s : State) (p : PortId) (f : WalkFilter) (start : Nat) :
    (s.walkingFrom p f start).slots = s.slots := State.setPort_slots s p _

@[simp] theorem State.walkingFrom_port (s : State) (p : PortId) (f : WalkFilter) (start : Nat) :
    (s.walkingFrom p f start).port p = { s.port p with cursor := start, filter := some f } := State.setPort_port s p _

/-- Moving the cursor of a walk is the same as starting it from there. -/
theorem State.walkingFrom_setCursor (s : State) (p : PortId) (f : WalkFilter) (start cursor : Nat) :
    (s.walkingFrom p f start).setPort p { (s.walkingFrom p f start).port p with cursor := cursor }
      = s.walkingFrom p f cursor := by
  rw [State.walkingFrom_port]
  exact State.setPort_setPort s p _ _

/-- A port that holds a filter walks from where it is. -/
theorem State.walkingFrom_self {s : State} {p : PortId} {f : WalkFilter} (h : (s.port p).filter = some f) :
    s.walkingFrom p f (s.port p).cursor = s := by
  rw [State.walkingFrom, ← h]
  exact State.setPort_self s p

/-- The answer a command's row builds is the result of its code. -/
theorem answer_eq_resultOf (row : CommandRow) (code : ResultCode) (data : List Byte) :
    answer row code data = resultOf code row.code data := rfl

/-- At the first match the walk answers its summary and leaves the cursor past it. -/
theorem walkFrom_match {s : State} {f : WalkFilter} {start : Nat} {i : SlotNo} {r : Record} (row : CommandRow)
    (inp : StepInputs) (p : PortId) (hi : start ≤ i.val) (hr : s.slots[i] = some r) (hm : Matches f r)
    (hfirst : ∀ (j : SlotNo) (q : Record), start ≤ j.val → j < i → s.slots[j] = some q → ¬Matches f q) :
    walkFrom row inp p f (s.walkingFrom p f start)
      = (s.walkingFrom p f (i.val + 1), resultOf .ok row.code (summaryBytes inp.now i r)) := by
  have hfound : (s.walkingFrom p f start).walkMatch f ((s.walkingFrom p f start).port p).cursor = some i := by
    rw [State.walkingFrom_port]
    exact walkMatch_some hi (by rwa [State.walkingFrom_slots]) hm (by rwa [State.walkingFrom_slots])
  simp only [walkFrom, hfound, State.walkingFrom_setCursor, State.walkingFrom_slots, hr, Option.map_some,
    Option.getD_some, answer_eq_resultOf]

/-- With no match left the walk answers END_OF_WALK and puts the cursor back to 0. -/
theorem walkFrom_end {s : State} {f : WalkFilter} {start : Nat} (row : CommandRow) (inp : StepInputs) (p : PortId)
    (hnone : ∀ (j : SlotNo) (q : Record), start ≤ j.val → s.slots[j] = some q → ¬Matches f q) :
    walkFrom row inp p f (s.walkingFrom p f start)
      = (s.walkingFrom p f 0, resultOf .endOfWalk row.code []) := by
  have hmissed : (s.walkingFrom p f start).walkMatch f ((s.walkingFrom p f start).port p).cursor = none := by
    rw [State.walkingFrom_port]
    exact walkMatch_none (by rwa [State.walkingFrom_slots])
  simp only [walkFrom, hmissed, State.walkingFrom_setCursor, answer_eq_resultOf]

/-! ### The ends of the find step and the walk step (R14, R18, R19) -/

/-- The find step ends with FIND's own work. -/
theorem exec_findStep_ends {s : State} {p : PortId} {id : ConsignmentId} {inp : StepInputs}
    (h : s.stepIs p (.find id) inp) :
    exec (.findStep p .ends) s = .next (State.stepEnds (findWork inp id s).1 p (findWork inp id s).2) :=
  exec_ends_of_stepRow (row := .findStep p) (by cases p <;> rfl) h

/-- The walk step ends with WALK's own work. -/
theorem exec_walkStep_ends_walk {s : State} {p : PortId} {f : Option WalkFilter} {inp : StepInputs}
    (h : s.stepIs p (.walk f) inp) :
    exec (.walkStep p .ends) s = .next (State.stepEnds (walkWork inp p f s).1 p (walkWork inp p f s).2) :=
  exec_ends_of_stepRow (row := .walkStep p) (by cases p <;> rfl) h

/-- The walk step ends with WALK NEXT's own work. -/
theorem exec_walkStep_ends_walkNext {s : State} {p : PortId} {inp : StepInputs} (h : s.stepIs p .walkNext inp) :
    exec (.walkStep p .ends) s = .next (State.stepEnds (walkNextWork inp p s).1 p (walkNextWork inp p s).2) :=
  exec_ends_of_stepRow (row := .walkStep p) (by cases p <;> rfl) h

/-- WALK walks from slot 0 with its own filter, and WALK NEXT from its port's cursor with the stored one. -/
theorem exec_walkStep_walkFrom {p : PortId} {cmd : PortCommand} {f : WalkFilter} {code : Byte} {start : Nat}
    {inp : StepInputs} {s : State} (h : s.stepIs p cmd inp)
    (hcmd : (cmd = .walk (some f) ∧ code = 0x15 ∧ start = 0)
      ∨ (cmd = .walkNext ∧ code = 0x16 ∧ (s.port p).filter = some f ∧ start = (s.port p).cursor)) :
    ∃ row : CommandRow, row.code = code ∧ exec (.walkStep p .ends) s = .next
      (State.stepEnds (walkFrom row inp p f (s.walkingFrom p f start)).1 p
        (walkFrom row inp p f (s.walkingFrom p f start)).2) := by
  rcases hcmd with ⟨rfl, rfl, rfl⟩ | ⟨rfl, rfl, hf, rfl⟩
  · exact ⟨rowWalk, rfl, exec_walkStep_ends_walk h⟩
  · have hwork : walkNextWork inp p s = walkFrom rowWalkNext inp p f s := by simp only [walkNextWork, hf]
    refine ⟨rowWalkNext, rfl, ?_⟩
    rw [State.walkingFrom_self hf, exec_walkStep_ends_walkNext h, hwork]

/-! ### The obligation -/

theorem findAnswersTheSummary : FindAnswersTheSummary := by
  intro p id inp i r s h hids hat
  have hwork : findWork inp id s = (s, resultOf .ok 0x14 (summaryBytes inp.now i r)) := by
    rw [findWork, findRecord_idAt hids hat]
    rfl
  rw [exec_findStep_ends h, hwork]

theorem walkReportsTheFirstMatch : WalkReportsTheFirstMatch := by
  intro p cmd f code start inp s h hcmd
  obtain ⟨row, rfl, hexec⟩ := exec_walkStep_walkFrom h hcmd
  refine ⟨fun i r hi hr hm hfirst => ?_, fun hnone => ?_⟩
  · rw [hexec, walkFrom_match row inp p hi hr hm hfirst, State.walkingFrom]
  · rw [hexec, walkFrom_end row inp p hnone, State.walkingFrom]

theorem walkNextWithoutAFilterIsRefused : WalkNextWithoutAFilterIsRefused := by
  intro p inp s h hnone
  have hwork : walkNextWork inp p s = (s, resultOf .noWalk 0x16 []) := by
    rw [walkNextWork, hnone]
    rfl
  rw [exec_walkStep_ends_walkNext h, hwork]

theorem walkNamingNoCompartmentIsRefused : WalkNamingNoCompartmentIsRefused := by
  intro p inp s h
  have hwork : walkWork inp p none s = (s, resultOf .badCompartment 0x15 []) := rfl
  rw [exec_walkStep_ends_walk h, hwork]

/-- Settles O25, by its four parts. -/
theorem findAndWalkReportRecords : Obligations.FindAndWalkReportRecords :=
  ⟨findAnswersTheSummary, walkReportsTheFirstMatch, walkNextWithoutAFilterIsRefused, walkNamingNoCompartmentIsRefused⟩

end Sys2Proof.Machine
end

section
/-!
PROOFS. SET CLASS in its class test step (R27 to R31).
-/
namespace Sys2Proof.Machine

/-! ### The carried values, clamped (R28) -/

/-- What each carried value is clamped to, range by range. -/
theorem CarriedClass.clamped_eq (v : CarriedClass) :
    v.clamped =
      { upper := if v.upper < -400 then -400 else if 500 < v.upper then 500 else v.upper
        hard := if v.hard < -400 then -400 else if 500 < v.hard then 500 else v.hard
        low := if v.lower = -32768 then none
          else some
            { lower := if v.lower < -400 then -400 else if 500 < v.lower then 500 else v.lower
              floor := if v.floor < -400 then -400 else if 500 < v.floor then 500 else v.floor }
        warmBudget := if v.warmBudget < 0 then 0 else if 16000000 < v.warmBudget then 16000000 else v.warmBudget
        coldBudget := if v.coldBudget < 0 then 0 else if 16000000 < v.coldBudget then 16000000 else v.coldBudget
        watchPercent := if v.watchPercent < 10 then 10 else if 95 < v.watchPercent then 95 else v.watchPercent
        tolerance := if v.tolerance < 0 then 0 else if 86400 < v.tolerance then 86400 else v.tolerance } := by
  simp only [CarriedClass.clamped, clampTemp_eq, clampNat_eq (Nat.zero_le _),
    clampNat_eq (by decide : Config.minPercent ≤ Config.maxPercent)]
  rfl

/-- The clamped L and F: none when L is absent, and then F is not clamped either. -/
theorem CarriedClass.clamped_low_some {v : CarriedClass} {l : LowLimits} :
    v.clamped.low = some l
      ↔ v.lower ≠ Config.absentTemp ∧ l = { lower := clampTemp v.lower, floor := clampTemp v.floor } := by
  by_cases h : v.lower = Config.absentTemp
  · simp [CarriedClass.clamped, h]
  · simp [CarriedClass.clamped, h, eq_comm]

/-- Clamping changed no value: each that the class holds is the one carried. -/
def CarriedClass.Unchanged (v : CarriedClass) (w : ClassLimits) : Prop :=
  w.upper = v.upper ∧ w.hard = v.hard ∧ w.warmBudget = v.warmBudget ∧ w.coldBudget = v.coldBudget
    ∧ w.watchPercent = v.watchPercent ∧ w.tolerance = v.tolerance
    ∧ ∀ l : LowLimits, w.low = some l → l.lower = v.lower ∧ l.floor = v.floor

/-- The model's test of an adjustment tells whether clamping changed a value. -/
theorem CarriedClass.adjusted_eq_false (v : CarriedClass) : v.adjusted = false ↔ v.Unchanged v.clamped := by
  have hlow : (∀ l : LowLimits, v.clamped.low = some l → l.lower = v.lower ∧ l.floor = v.floor)
      ↔ (v.lower ≠ Config.absentTemp → clampTemp v.lower = v.lower ∧ clampTemp v.floor = v.floor) := by
    simp only [CarriedClass.clamped_low_some, and_imp, forall_eq_apply_imp_iff]
  rw [CarriedClass.Unchanged, hlow]
  simp only [CarriedClass.adjusted, Bool.or_eq_false_iff, Bool.and_eq_false_imp, bne_iff_ne, bne_eq_false_iff_eq]
  have hupper : v.clamped.upper = clampTemp v.upper := rfl
  have hhard : v.clamped.hard = clampTemp v.hard := rfl
  rw [hupper, hhard]
  tauto

/-! ### The order asked of the clamped values (R29) -/

/-- U < H, and F < L ≤ U when L is present. -/
theorem ClassLimits.ordered_iff (w : ClassLimits) :
    w.ordered = true ↔ w.upper < w.hard ∧ ∀ l : LowLimits, w.low = some l → l.floor < l.lower ∧ l.lower ≤ w.upper := by
  simp only [ClassLimits.ordered, Bool.and_eq_true, decide_eq_true_eq, Option.all_eq_true]

/-! ### The work of the class test step (R27, R28, R31) -/

/-- A class in use is refused before any other test. -/
theorem setClassWork_inUse {k : ClassNo} {s : State} (v : CarriedClass) (h : 0 < s.useCount[k]) :
    setClassWork k v s = (s, resultOf .classInUse 0x30 []) := if_pos h

/-- Clamped values out of order are refused. -/
theorem setClassWork_badLimits {k : ClassNo} {v : CarriedClass} {s : State} (huse : s.useCount[k] = 0)
    (hord : ¬v.clamped.ordered = true) : setClassWork k v s = (s, resultOf .badLimits 0x30 []) := by
  rw [setClassWork, if_neg (by omega), if_neg hord]
  rfl

/-- Clamped values in order are stored whole and echoed, with the code that tells whether clamping changed one. -/
theorem setClassWork_stored {k : ClassNo} {v : CarriedClass} {s : State} (huse : s.useCount[k] = 0)
    (hord : v.clamped.ordered = true) :
    setClassWork k v s
      = (s.setClassTo k (some v.clamped), resultOf (adjustedCode v.adjusted) 0x30 v.clamped.bytes) := by
  rw [setClassWork, if_neg (by omega), if_pos hord]
  rfl

/-- With UNSET a class in use is refused and any other becomes UNSET. -/
theorem setClassUnsetWork_eq (k : ClassNo) (s : State) :
    setClassUnsetWork k s
      = if 0 < s.useCount[k] then (s, resultOf .classInUse 0x30 [])
        else (s.setClassTo k none, resultOf .ok 0x30 []) := rfl

/-! ### The end of the class test step -/

/-- The class test step ends with SET CLASS's own work. -/
theorem exec_classTestStep_ends_setClass {s : State} {k : ClassNo} {v : CarriedClass} {inp : StepInputs}
    (h : s.stepIs .unit (.setClass k v) inp) :
    exec (.classTestStep .ends) s = .next (State.stepEnds (setClassWork k v s).1 .unit (setClassWork k v s).2) :=
  exec_ends_of_stepRow (row := .classTestStep) rfl h

/-- With UNSET it ends with that form's work. -/
theorem exec_classTestStep_ends_unset {s : State} {k : ClassNo} {inp : StepInputs}
    (h : s.stepIs .unit (.setClassUnset k) inp) :
    exec (.classTestStep .ends) s
      = .next (State.stepEnds (setClassUnsetWork k s).1 .unit (setClassUnsetWork k s).2) :=
  exec_ends_of_stepRow (row := .classTestStep) rfl h

/-! ### The obligation -/

/-- Settles O40: its clamped class is the model's, and each clause is one case of the step's work. -/
theorem classTestStoresAnUnusedClass : Obligations.ClassTestStoresAnUnusedClass := by
  intro k v inp s clampTo clampUp w same ordered echo
  have hw : v.clamped = w := v.clamped_eq
  have hord : v.clamped.ordered = true ↔ ordered := hw ▸ v.clamped.ordered_iff
  have hsame : v.adjusted = false ↔ v.Unchanged w := hw ▸ v.adjusted_eq_false
  refine ⟨fun h => ⟨fun huse => ?inUse, fun huse hno => ?badLimits, fun huse ho hs => ?unchanged,
    fun huse ho hs => ?adjusted⟩, fun h => ?unset⟩
  case inUse => rw [exec_classTestStep_ends_setClass h, setClassWork_inUse v huse]
  case badLimits => rw [exec_classTestStep_ends_setClass h, setClassWork_badLimits huse (mt hord.mp hno)]
  case unchanged =>
    rw [exec_classTestStep_ends_setClass h, setClassWork_stored huse (hord.mpr ho), hsame.mpr hs, hw]
    rfl
  case adjusted =>
    have hadj : v.adjusted = true := Bool.eq_true_of_not_eq_false (mt hsame.mp hs)
    rw [exec_classTestStep_ends_setClass h, setClassWork_stored huse (hord.mpr ho), hadj, hw]
    rfl
  case unset =>
    rw [exec_classTestStep_ends_unset h, setClassUnsetWork_eq]
    split <;> rfl

end Sys2Proof.Machine
end

section
/-!
PROOFS. DEFROST START and DEFROST END by their tables (R44, R45).
-/
namespace Sys2Proof.Machine

/-! ### The compartment a defrost command names (R179) -/

/-- A compartment number from 1 to 4 of an ACTIVE compartment names it. -/
theorem activeField_named {s : State} {b : Byte} {c : CompNo} (hb : b.toNat = c.val + 1)
    (ha : s.comps[c].settings.active = true) : activeField s.comps b = some c :=
  (activeField_some (inp := s.inputs)).mpr ⟨hb, ha⟩

/-- A number outside 1 to 4, or of an OFF compartment, names none. -/
theorem activeField_unnamed {s : State} {b : Byte}
    (h : ∀ c : CompNo, b.toNat = c.val + 1 → s.comps[c].settings.active = false) : activeField s.comps b = none := by
  refine (activeField_none (inp := s.inputs)).mpr fun c hc => ?_
  obtain ⟨hb, ha⟩ := hc
  exact Bool.false_ne_true ((h c hb).symm.trans ha)

/-! ### A defrost command at its close -/

/-- A change of a compartment leaves the close of a port's frame as it is. -/
theorem place_setComp_endFrame (s : State) (p : PortId) (c : CompNo) (x : Compartment) (r : Result) :
    ((s.endFrame p).setComp c x).place p r = { s.closedInto p (.result r) with comps := put s.comps c x } := by
  cases p <;> rfl

/-- A defrost command that names no ACTIVE compartment answers BAD_COMPARTMENT and changes nothing else. -/
theorem defrostCommand_refused {s : State} {b : Byte} (row : CommandRow) (p : PortId) (f : Compartment → Compartment)
    (h : ∀ c : CompNo, b.toNat = c.val + 1 → s.comps[c].settings.active = false) :
    defrostCommand row p b f (s.endFrame p) = s.closedInto p (.result (resultOf .badCompartment row.code [])) := by
  simp only [defrostCommand, State.endFrame_comps, activeField_unnamed h, place_endFrame, answer_eq_resultOf]

/-- A defrost command that names an ACTIVE compartment answers OK, changes that compartment by its table and changes
nothing else. -/
theorem defrostCommand_done {s : State} {b : Byte} {c : CompNo} (row : CommandRow) (p : PortId)
    (f : Compartment → Compartment) (hb : b.toNat = c.val + 1) (ha : s.comps[c].settings.active = true) :
    defrostCommand row p b f (s.endFrame p)
      = { s.closedInto p (.result (resultOf .ok row.code [])) with comps := put s.comps c (f s.comps[c]) } := by
  simp only [defrostCommand, State.endFrame_comps, activeField_named hb ha, place_setComp_endFrame, answer_eq_resultOf]

/-- DEFROST START's frame that passes its tests is closed and carried out with the table of R44. -/
theorem exec_defrostStart_accepted {s : State} {b : Byte} (h : s.accepts ⟨.unit, 0x3A, 2, true, false, [b]⟩) :
    exec (.defrostStart .unit [b]) s
      = .next (defrostCommand rowDefrostStart .unit b Compartment.startDefrost (s.endFrame .unit)) :=
  congrArg Host.Outcome.next (closeFrame_accepts (row := rowDefrostStart) rfl h)

/-- DEFROST END's frame that passes its tests is closed and carried out with the table of R45. -/
theorem exec_defrostEnd_accepted {s : State} {b : Byte} (h : s.accepts ⟨.unit, 0x3B, 2, true, false, [b]⟩) :
    exec (.defrostEnd .unit [b]) s
      = .next (defrostCommand rowDefrostEnd .unit b Compartment.endDefrost (s.endFrame .unit)) :=
  congrArg Host.Outcome.next (closeFrame_accepts (row := rowDefrostEnd) rfl h)

/-! ### The obligation -/

/-- Both outcomes of the command, the second with `Compartment.startDefrost` unfolded to the table of R44. -/
theorem defrostStartByItsTable : DefrostStartByItsTable := by
  intro b s h
  rw [exec_defrostStart_accepted h]
  refine ⟨fun hoff => ?refused, fun c hb ha => ?done⟩
  case refused =>
    rw [defrostCommand_refused _ _ _ hoff]
    rfl
  case done =>
    rw [defrostCommand_done _ _ _ hb ha]
    rfl

/-- Both outcomes of the command, the second with `Compartment.endDefrost` unfolded to the table of R45. -/
theorem defrostEndByItsTable : DefrostEndByItsTable := by
  intro b s h
  rw [exec_defrostEnd_accepted h]
  refine ⟨fun hoff => ?refused, fun c hb ha => ?done⟩
  case refused =>
    rw [defrostCommand_refused _ _ _ hoff]
    rfl
  case done =>
    rw [defrostCommand_done _ _ _ hb ha]
    rfl

/-- Settles O18, command by command. -/
theorem defrostCommandsByTheirTables : Obligations.DefrostCommandsByTheirTables :=
  ⟨defrostStartByItsTable, defrostEndByItsTable⟩

end Sys2Proof.Machine
end

section
/-!
PROOFS. The set of verdicts reached, applied to a record in one act (R94, R96).
-/
namespace Sys2Proof.Machine

/-! ### The highest verdict against the record's own -/

section
variable {v w : Verdict} {reached : ReasonCause → Prop}

/-- The verdict rises exactly when the highest is not the record's own: no two verdicts share a rank. -/
theorem HighestOf.rises_iff (h : HighestOf v reached w) : v.rank < w.rank ↔ w ≠ v := by
  obtain ⟨hle, -, -⟩ := h
  constructor
  · rintro hlt rfl
    exact Nat.lt_irrefl _ hlt
  · exact fun hne => Nat.lt_of_le_of_ne hle fun heq => hne (rank_inj heq).symm

/-- A highest verdict that is not the record's own was reached, so some cause names it. -/
theorem HighestOf.reached_of_ne (h : HighestOf v reached w) (hne : w ≠ v) : ∃ c, reached c ∧ c.verdict = w := by
  obtain ⟨-, hfrom, -⟩ := h
  exact hfrom.resolve_left hne

end

/-! ### What applying the set does -/

section
variable {reached : List ReasonCause} {r : Record}

/-- With no higher verdict reached, the record stays as it was and no flag is raised. -/
theorem applyReached_of_eq (h : highestReached r.verdict reached = r.verdict) : applyReached reached r = (r, 0) := by
  simp [applyReached, h]

/-- A rise takes the highest verdict and its first cause, drops the carried cause and raises the new verdict's flag. -/
theorem applyReached_of_rises {c : ReasonCause} (h : r.verdict.rank < (highestReached r.verdict reached).rank)
    (hc : firstCause (highestReached r.verdict reached) reached = some c) :
    applyReached reached r
      = ({ r with verdict := highestReached r.verdict reached, cause := .reason c, carriedCause := none },
        verdictFlag (highestReached r.verdict reached) r.comp) := by
  simp [applyReached, h, hc]

end

/-! ### The obligation -/

/-- Settles O46, by whether the highest verdict is the record's own. When it is not, the record rises, and a cause
reached names the new verdict, so the search through the cause order finds the first one. -/
theorem verdictRisesInOneAct : Obligations.VerdictRisesInOneAct := by
  intro reached r
  have hhigh := highestReached_spec reached r.verdict
  refine ⟨highestReached r.verdict reached, hhigh, ?_⟩
  split
  case isTrue hsame =>
    rw [applyReached_of_eq hsame]
    exact ⟨rfl, rfl⟩
  case isFalse hne =>
    obtain ⟨c, hfound, hfirst⟩ := firstCause_spec (hhigh.reached_of_ne hne)
    rw [applyReached_of_rises (hhigh.rises_iff.mpr hne) hfound]
    exact ⟨c, hfirst, rfl, rfl⟩

end Sys2Proof.Machine
end

section
/-!
PROOFS. SET FLAG MASK at its close, and the ready line that the mask gates (R164, R165, R167, R183).
-/
namespace Sys2Proof.Machine

/-! ### A flag set as five bytes and back (section 12.8, R183) -/

/-- Little-endian bytes: bit 8j + k of their number is bit k of byte j. -/
theorem beNat_reverse_testBit (bs : List Byte) (j : Nat) {k : Nat} (hk : k < 8) :
    (beNat bs.reverse).testBit (8 * j + k) = (byteAt j bs).getLsbD k := by
  induction bs generalizing j with
  | nil => simp [beNat, byteAt]
  | cons b bs ih =>
    rw [List.reverse_cons, beNat_append, show (256 : Nat) = 2 ^ 8 from rfl, Nat.testBit_two_pow_mul_add _ b.isLt]
    cases j with
    | zero => simp [byteAt, BitVec.getLsbD, hk]
    | succ j =>
      rw [if_neg (by omega), show 8 * (j + 1) + k - 8 = 8 * j + k by omega, ih]
      rfl

/-- Flag 8j + k is bit k of byte j. -/
theorem flagsOfBytes_getLsbD (bs : List Byte) {j k : Nat} (hk : k < 8) (h : 8 * j + k < 38) :
    (flagsOfBytes bs).getLsbD (8 * j + k) = (byteAt j bs).getLsbD k := by
  rw [show flagsOfBytes bs = BitVec.ofNat 38 (beNat bs.reverse) from rfl, BitVec.getLsbD_ofNat,
    beNat_reverse_testBit bs j hk]
  simp [h]

@[simp] theorem flagBytes_length (f : FlagSet) : (flagBytes f).length = 5 := by simp [flagBytes]

/-- Bit k of byte j is flag 8j + k; the bits past the last flag are 0, as they are in the flag set. -/
theorem flagBytes_getLsbD (f : FlagSet) {j k : Nat} (hj : j < 5) (hk : k < 8) :
    (byteAt j (flagBytes f)).getLsbD k = f.getLsbD (8 * j + k) := by
  have hbyte : byteAt j (flagBytes f) = BitVec.ofNat 8 (f.toNat / 2 ^ (8 * j)) := by
    simp [byteAt, flagBytes, hj, pow_mul]
  rw [hbyte, BitVec.getLsbD_ofNat, Nat.testBit_div_two_pow, BitVec.getLsbD, Nat.add_comm k]
  simp [hk]

/-! ### The mask a frame carries and its echo -/

/-- The mask is what the first five bytes name, whatever follows them. -/
theorem maskField_getLsbD (bytes : List Byte) {j k : Nat} (hj : j < 5) (hk : k < 8) (h : 8 * j + k < 38) :
    (maskField bytes).getLsbD (8 * j + k) = (byteAt j bytes).getLsbD k := by
  have hbyte : byteAt j (slice 0 5 bytes) = byteAt j bytes := by simp [byteAt, slice, hj]
  rw [maskField, flagsOfBytes_getLsbD _ hk h, hbyte]

/-- Once the five mask bytes have been received, the echo is the mask as five bytes. -/
theorem maskEcho_eq {bytes : List Byte} (h : 5 ≤ bytes.length) : maskEcho bytes = flagBytes (maskField bytes) := if_pos h

/-! ### The close of SET FLAG MASK -/

/-- The open frame of a code, as the close of a frame looks for it. -/
theorem State.frameOpen.openFrame_code {s : State} {p : PortId} {code : Byte} (h : s.frameOpen p code) :
    (s.openFrame p).map (·.code) = some code := by
  obtain ⟨hpower, hframe⟩ := h
  simpa [State.openFrame, State.powered, hpower] using hframe

/-- SET FLAG MASK is not queued and either port may send it, so its length is its only test. -/
theorem frameTest_setFlagMask (p : PortId) (ph : PortPhase) : frameTest rowSetFlagMask p 11 false ph = none :=
  (frameTest_none _ _ _ _ _).mpr ⟨rfl, by cases p <;> rfl, rfl, nofun⟩

/-- SET FLAG MASK is the close of its frame: the echo is the reply whether or not the mask is stored. -/
theorem exec_setFlagMask_eq (p : PortId) (bytes : List Byte) (s : State) :
    exec (.setFlagMask p bytes) s
      = .next (closeFrame rowSetFlagMask p (bytes.length + 1) false
          (fun t => t.setPort p { t.port p with reply := maskEcho bytes })
          (fun t => t.setPort p { t.port p with mask := maskField bytes, reply := maskEcho bytes }) s) := rfl

/-- A close of its length stores the mask and leaves the echo as the reply. -/
theorem exec_setFlagMask_stored {s : State} {p : PortId} {bytes : List Byte} (h : s.frameOpen p 0x03)
    (hlen : bytes.length = 10) :
    exec (.setFlagMask p bytes) s
      = .next (s.setPort p { s.port p with frame := none, mask := maskField bytes, reply := maskEcho bytes }) := by
  have htest : frameTest rowSetFlagMask p (bytes.length + 1) false (s.port p).phase = none := by
    rw [hlen]
    exact frameTest_setFlagMask p _
  rw [exec_setFlagMask_eq, closeFrame_accepted (row := rowSetFlagMask) h.openFrame_code htest]
  simp [State.endFrame]

/-- A close of another length leaves the mask and is recorded; what was echoed in the frame was sent. -/
theorem exec_setFlagMask_refused {s : State} {p : PortId} {bytes : List Byte} (h : s.frameOpen p 0x03)
    (hlen : bytes.length ≠ 10) :
    exec (.setFlagMask p bytes) s
      = .next (s.setPort p
          { s.port p with
            frame := none, reply := maskEcho bytes
            lastRefusal := some { code := .frameLength, command := 0x03, count := min 255 (bytes.length + 1) } }) := by
  have hcount : bytes.length + 1 ≠ rowSetFlagMask.length := fun heq => hlen (Nat.succ.inj heq)
  rw [exec_setFlagMask_eq, closeFrame_refused (row := rowSetFlagMask) h.openFrame_code (frameTest_length hcount)]
  simp [State.endFrame, State.recordRefusal, rowSetFlagMask, Config.maxRefusedCount]

/-! ### The ready line (R165, R167) -/

/-- RESULT is the state of a port that the byte 03h names. -/
theorem PortPhase.byte_eq_result (ph : PortPhase) : ph.byte = 3 ↔ ∃ r : Result, ph = .result r := by
  cases ph <;> simp [PortPhase.byte]

/-- Two flag sets share a flag exactly when their intersection is not empty. -/
theorem flagSet_and_ne_zero (a b : FlagSet) : a &&& b ≠ 0 ↔ ∃ i : Nat, a.getLsbD i = true ∧ b.getLsbD i = true := by
  constructor
  case mp =>
    intro hne
    by_contra hnone
    refine hne (BitVec.eq_of_getLsbD_eq fun i _ => ?_)
    rw [BitVec.getLsbD_and, Bool.eq_false_iff.mpr fun hi => hnone ⟨i, Bool.and_eq_true_iff.mp hi⟩]
    simp
  case mpr =>
    rintro ⟨i, ha, hb⟩ hzero
    have hi : (a &&& b).getLsbD i = true := by rw [BitVec.getLsbD_and, ha, hb, Bool.and_self]
    simp [hzero] at hi

/-! ### The obligation -/

/-- By the length of the frame; in both cases the reply is the echo. -/
theorem flagMaskStoredAsCarried : FlagMaskStoredAsCarried := by
  intro p bytes s h
  refine ⟨maskField bytes, maskEcho bytes, fun hlen => ?stored, exec_setFlagMask_refused h⟩
  case stored =>
    rw [exec_setFlagMask_stored h hlen, maskEcho_eq (by omega)]
    exact ⟨fun _ _ => maskField_getLsbD bytes, fun _ _ => flagBytes_getLsbD _, flagBytes_length _, rfl⟩

theorem readyLineFollowsResultAndFlags : ReadyLineFollowsResultAndFlags := by
  intro p s
  rw [State.readyLine, Bool.and_eq_true, Bool.or_eq_true, State.powered, beq_iff_eq, beq_iff_eq, bne_iff_ne,
    PortPhase.byte_eq_result, flagSet_and_ne_zero]

/-- Settles O5: the mask by the close of its frame, the ready line by its definition. -/
theorem flagMaskDrivesTheReadyLine : Obligations.FlagMaskDrivesTheReadyLine :=
  ⟨flagMaskStoredAsCarried, readyLineFollowsResultAndFlags⟩

end Sys2Proof.Machine
end

section
/-!
PROOFS. What one command can do to the part, said once: the changes outside the ports that it makes, if any. The statements
about every step rest on these cases.
-/
namespace Sys2Proof.Machine

/-! ### Changes of the ports alone -/

/-- Two states that differ at most in the ports, the move-all record and the lapse's latch. -/
def Outer (s t : State) : Prop :=
  ∃ (a b : Port) (m : Option MoveAllRecord) (w : Bool),
    t = { s with unitPort := a, dockPort := b, moveAll := m, lapseWaiting := w }

namespace Outer

theorem refl (s : State) : Outer s s := ⟨_, _, _, _, rfl⟩

theorem trans {s t u : State} (h : Outer s t) (h' : Outer t u) : Outer s u := by
  obtain ⟨_, _, _, _, rfl⟩ := h
  obtain ⟨a, b, m, w, rfl⟩ := h'
  exact ⟨a, b, m, w, rfl⟩

theorem setPort (s : State) (p : PortId) (x : Port) : Outer s (s.setPort p x) := by
  cases p <;> exact ⟨_, _, _, _, rfl⟩

theorem raise (s : State) (f : FlagSet) : Outer s (s.raise f) := ⟨_, _, _, _, rfl⟩

theorem setPhase (s : State) (p : PortId) (ph : PortPhase) : Outer s (s.setPhase p ph) := setPort s p _

theorem place (s : State) (p : PortId) (r : Result) : Outer s (s.place p r) := setPort s p _

theorem clearWalk (s : State) (p : PortId) : Outer s (s.clearWalk p) := setPort s p _

theorem endFrame (s : State) (p : PortId) : Outer s (s.endFrame p) := setPort s p _

theorem recordRefusal (s : State) (p : PortId) (c : RefusalCode) (b : Byte) (n : Nat) :
    Outer s (s.recordRefusal p c b n) := setPort s p _

theorem opened (s : State) (p : PortId) (b : Byte) (c : Capture) (l : List Byte) : Outer s (s.open p b c l) :=
  setPort s p _

theorem setMoveAll (s : State) (m : Option MoveAllRecord) : Outer s { s with moveAll := m } := ⟨_, _, _, _, rfl⟩

theorem endWalk (s : State) (r : Result) : Outer s (s.endWalk r) := ⟨_, _, _, _, rfl⟩

theorem continueWalk (s : State) (m : MoveAllRecord) : Outer s (s.continueWalk m) := ⟨_, _, _, _, rfl⟩

theorem settleWalk (s : State) (m : MoveAllRecord) (i : SlotNo) (e : Option Result) : Outer s (s.settleWalk m i e) := by
  unfold State.settleWalk
  split <;> first | exact endWalk _ _ | exact continueWalk _ _

theorem cancelWalk (s : State) : Outer s s.cancelWalk := by
  unfold State.cancelWalk
  split
  · split
    · exact setMoveAll _ _
    · exact endWalk _ _
  · exact refl _

theorem releaseWalk (s : State) : Outer s s.releaseWalk := by
  unfold State.releaseWalk
  split
  · split
    · exact setMoveAll _ _
    · exact endWalk _ _
    · exact refl _
    · exact refl _
  · exact refl _

theorem readFrame (s : State) (p : PortId) (code : Byte) : Outer s (s.readFrame p code) := by
  have hcancel : Outer s (s.readCancel p) := by
    unfold State.readCancel
    split
    · exact (setMoveAll _ _).trans (opened _ _ _ _ _)
    · exact opened _ _ _ _ _
  unfold State.readFrame
  split_ifs <;> first | exact opened _ _ _ _ _ | exact hcancel

/-- The close of a frame changes the ports alone when what follows it does. -/
theorem closeFrame {ref acc : State → State} (href : ∀ u, Outer u (ref u)) (hacc : ∀ u, Outer u (acc u))
    (row : CommandRow) (p : PortId) (count : Nat) (forced : Bool) (s : State) :
    Outer s (closeFrame row p count forced ref acc s) := by
  rcases closeFrame_cases row p count forced ref acc s with ⟨-, h⟩ | ⟨r, -, -, h⟩ | ⟨-, -, h⟩ <;> rw [h]
  · exact refl _
  · exact ((endFrame _ _).trans (recordRefusal _ _ _ _ _)).trans (href _)
  · exact (endFrame _ _).trans (hacc _)

/-- The close of a queued command that waits for its owner. -/
theorem acceptWaiting (s : State) (p : PortId) (cmd : PortCommand) : Outer s (acceptWaiting p cmd s) := setPort s p _

end Outer

/-! ### Changes that no phase of a port sees -/

/-- A capture that asks nothing of its port: neither a result found waiting nor a hold on a walk. -/
def Capture.plain (x : Capture) : Prop := (∀ n : Nat, x ≠ .result .waiting n) ∧ x ≠ .cancel true

/-- Two states whose power, engine, order, move-all record and phases are the same, and whose frames have closed or opened
plain ones at most. -/
structure Quiet (s t : State) : Prop where
  power : t.power = s.power
  engine : t.engine = s.engine
  order : t.order = s.order
  moveAll : t.moveAll = s.moveAll
  phase : ∀ p : PortId, (t.port p).phase = (s.port p).phase
  frame : ∀ (p : PortId) (fr : OpenFrame), (t.port p).frame = some fr →
    fr.capture.plain ∨ ∃ fr' : OpenFrame, (s.port p).frame = some fr' ∧ fr'.capture = fr.capture

namespace Quiet

theorem refl (s : State) : Quiet s s := ⟨rfl, rfl, rfl, rfl, fun _ => rfl, fun _ fr h => .inr ⟨fr, h, rfl⟩⟩

theorem trans {s t u : State} (h : Quiet s t) (h' : Quiet t u) : Quiet s u where
  power := h'.power.trans h.power
  engine := h'.engine.trans h.engine
  order := h'.order.trans h.order
  moveAll := h'.moveAll.trans h.moveAll
  phase p := (h'.phase p).trans (h.phase p)
  frame p fr hfr := by
    rcases h'.frame p fr hfr with hplain | ⟨fr', hfr', he⟩
    · exact .inl hplain
    · rcases h.frame p fr' hfr' with hplain | ⟨fr'', hfr'', he'⟩
      · exact .inl (he ▸ hplain)
      · exact .inr ⟨fr'', hfr'', he'.trans he⟩

/-- A state with the same ports, engine, order, move-all record and power. -/
theorem of_eq {s t : State} (hpower : t.power = s.power) (hengine : t.engine = s.engine) (horder : t.order = s.order)
    (hmove : t.moveAll = s.moveAll) (hunit : t.unitPort = s.unitPort) (hdock : t.dockPort = s.dockPort) : Quiet s t := by
  have hport : ∀ p, t.port p = s.port p := by
    rintro (_ | _)
    · exact hunit
    · exact hdock
  exact ⟨hpower, hengine, horder, hmove, fun p => by rw [hport],
    fun p fr hfr => .inr ⟨fr, by rw [← hport]; exact hfr, rfl⟩⟩

/-- One port's record replaced by one with the same phase, its frame the same, closed or a plain one. -/
theorem setPort {s : State} {p : PortId} {x : Port} (hphase : x.phase = (s.port p).phase)
    (hframe : x.frame = (s.port p).frame ∨ ∀ fr : OpenFrame, x.frame = some fr → fr.capture.plain) :
    Quiet s (s.setPort p x) where
  power := State.setPort_power s p x
  engine := State.setPort_engine s p x
  order := State.setPort_order s p x
  moveAll := State.setPort_moveAll s p x
  phase q := by
    by_cases hq : q = p
    · subst hq
      rw [State.setPort_port, hphase]
    · rw [State.setPort_port_ne s x hq]
  frame q fr hfr := by
    by_cases hq : q = p
    · subst hq
      rw [State.setPort_port] at hfr
      rcases hframe with he | hplain
      · exact .inr ⟨fr, he ▸ hfr, rfl⟩
      · exact .inl (hplain fr hfr)
    · rw [State.setPort_port_ne s x hq] at hfr
      exact .inr ⟨fr, hfr, rfl⟩

theorem endFrame (s : State) (p : PortId) : Quiet s (s.endFrame p) := setPort rfl (.inr nofun)

theorem clearWalk (s : State) (p : PortId) : Quiet s (s.clearWalk p) := setPort rfl (.inl rfl)

theorem recordRefusal (s : State) (p : PortId) (c : RefusalCode) (b : Byte) (n : Nat) :
    Quiet s (s.recordRefusal p c b n) := setPort rfl (.inl rfl)

theorem opened (s : State) (p : PortId) (b : Byte) {c : Capture} (l : List Byte) (hc : c.plain) :
    Quiet s (s.open p b c l) := by
  refine setPort rfl (.inr ?_)
  rintro fr ⟨⟩
  exact hc

theorem raise (s : State) (f : FlagSet) : Quiet s (s.raise f) where
  power := rfl
  engine := rfl
  order := rfl
  moveAll := rfl
  phase p := by
    rw [State.raise_port]
    rfl
  frame p fr hfr := by
    rw [State.raise_port] at hfr
    obtain ⟨fr', hfr', rfl⟩ := Option.map_eq_some_iff.mp hfr
    split
    · exact .inl ⟨nofun, nofun⟩
    · exact .inr ⟨fr', hfr', rfl⟩

end Quiet

/-- Changes of the ports alone that no phase sees. -/
def Silent (s t : State) : Prop := Outer s t ∧ Quiet s t

theorem Silent.refl (s : State) : Silent s s := ⟨Outer.refl s, Quiet.refl s⟩

theorem Silent.trans {s t u : State} (h : Silent s t) (h' : Silent t u) : Silent s u :=
  ⟨h.1.trans h'.1, h.2.trans h'.2⟩

theorem Silent.raise (s : State) (f : FlagSet) : Silent s (s.raise f) := ⟨Outer.raise s f, Quiet.raise s f⟩

/-- A port's walk cursor and filter replaced. -/
theorem Silent.setWalk (s : State) (p : PortId) (n : Nat) (f : Option WalkFilter) :
    Silent s (s.setPort p { s.port p with cursor := n, filter := f }) :=
  ⟨Outer.setPort s p _, Quiet.setPort rfl (.inl rfl)⟩

/-! ### The work of a table step -/

/-- What the work of a table step makes of the table and what belongs to it; the ports apart. -/
inductive Worked (st : StepInProgress) (s : State) : State → Prop
  /-- nothing -/
  | nothing : Worked st s s
  /-- a fresh or a carried record taken aboard -/
  | admitted {i : SlotNo} {r : Record} {cls : ClassNo} {k : ClassLimits} {c : CompNo}
      (hfree : s.slots[i] = none) (hid : s.idFree r.id) (hzero : r.id ≠ 0) (hk : s.classes[cls] = some k)
      (hc : st.inputs.comps[c].active = true)
      (hr : (∃ id, r = freshRecord st.inputs id cls c) ∨ ∃ b, r = carriedRecord st.inputs b cls k c) :
      Worked st s (s.takeAboard i r)
  /-- an ABOARD record discarded -/
  | discarded {i : SlotNo} {r : Record} {l : LiveFields} (hr : s.slots[i] = some r) (hl : r.custody = .aboard l) :
      Worked st s ((s.setSlot i none).countOut r.cls r.comp)
  /-- an ABOARD record moved -/
  | moved {i : SlotNo} {r : Record} {l : LiveFields} {b : CompNo} (hr : s.slots[i] = some r)
      (hl : r.custody = .aboard l) (hb : st.inputs.comps[b].active = true) :
      Worked st s (s.moveRecord st.inputs i r l b)
  /-- an ABOARD record offered -/
  | offered {i : SlotNo} {r : Record} {l : LiveFields} {own : Nat} (hr : s.slots[i] = some r)
      (hl : r.custody = .aboard l) (hroom : s.offers.length < 16) :
      Worked st s (s.makeOffer i r l (later st.inputs.now (offerTimeoutUsed st.inputs.offerTimeout own)))
  /-- an OFFERED record returned to ABOARD -/
  | offerEnded {i : SlotNo} {r : Record} {l : LiveFields} {d : RouteTime} {lapses : Nat} (hr : s.slots[i] = some r)
      (hl : r.custody = .offered l d) (hlapses : lapses = r.lapses ∨ lapses = satAdd Config.maxLapses r.lapses 1) :
      Worked st s (s.endOffer i r l lapses)
  /-- an OFFERED record closed -/
  | closed {i : SlotNo} {r : Record} {l : LiveFields} {d : RouteTime} {k : ClassLimits} {receiver : Wide}
      (hr : s.slots[i] = some r) (hl : r.custody = .offered l d) (hunit : s.unitId ≠ 0) (hk : s.classes[r.cls] = some k) :
      Worked st s (s.closeRecord i r ((closingFields st.inputs s.unitId receiver k r l).withCheck r))
  /-- a CLOSED record's statement read -/
  | statementRead {i : SlotNo} {r : Record} {f : ClosedFields} (hr : s.slots[i] = some r) (hf : r.custody = .closed f) :
      Worked st s (s.setSlot i (some { r with custody := .closed { f with statementRead := true } }))
  /-- a CLOSED record retired -/
  | retired {i : SlotNo} {r : Record} {f : ClosedFields} (hr : s.slots[i] = some r) (hf : r.custody = .closed f) :
      Worked st s (s.setSlot i none)
  /-- an unused class stored or unset -/
  | classSet {k : ClassNo} {v : Option ClassLimits} (huse : s.useCount[k] = 0)
      (hv : ∀ w, v = some w → ∃ x : CarriedClass, w = x.clamped ∧ w.ordered = true) : Worked st s (s.setClassTo k v)
  /-- an empty compartment switched off -/
  | switchedOff {p : PortId} {c : CompNo} {v : Settings} (hw : st.work = .port p (.setCompartmentOff c v))
      (hocc : s.occupancy[c] = 0) : Worked st s (s.storeOff c v.clamped)
  /-- the identity stored -/
  | identitySet {v : Half} (hempty : ∀ i : SlotNo, s.slots[i] = none) : Worked st s (s.setUnitIdTo v)
  /-- a live record charged by the accrual pass -/
  | charged {r : Record} {l : LiveFields} {k : ClassLimits} {n : Snapshot} {g : ScanTag} (hw : st.work = .accrual)
      (hg : s.exposure.passTag = some g) (hr : s.slots[s.exposure.accrualCursor] = some r) (hl : r.live = some l)
      (hk : s.classes[r.cls] = some k) (hn : st.inputs.comps[r.comp].snapshot = some n) (htag : l.tag ≠ g) :
      Worked st s (s.setSlot s.exposure.accrualCursor
        (some (r.charge l k st.inputs.comps[r.comp].ceilingInForce n g).1))
  /-- a live record charged by the gap pass -/
  | gapCharged {r : Record} {l : LiveFields} {k : ClassLimits} (hw : st.work = .gap)
      (hr : s.slots[s.exposure.gapCursor] = some r) (hl : r.live = some l) (hk : s.classes[r.cls] = some k) :
      Worked st s (s.setSlot s.exposure.gapCursor
        (some (r.chargeGap l k s.exposure.gapAmount.toNat st.inputs.tag).1))
  /-- an exempt slot passed over -/
  | exempted (hw : st.work = .gap) (he : s.exposure.gapExempt[s.exposure.gapCursor] = true) :
      Worked st s
        { s with exposure := { s.exposure with gapExempt := put s.exposure.gapExempt s.exposure.gapCursor false } }

/-- A state after a step's work: `t` differs from what `Worked` tells in the ports alone, and in none of their phases. -/
def WorkedOuter (st : StepInProgress) (s t : State) : Prop := ∃ u, Worked st s u ∧ Silent u t

namespace WorkedOuter

variable {st : StepInProgress} {s t : State}

theorem of (h : Worked st s t) : WorkedOuter st s t := ⟨t, h, Silent.refl t⟩

theorem same : WorkedOuter st s s := of .nothing

theorem ofSilent (h : Silent s t) : WorkedOuter st s t := ⟨s, .nothing, h⟩

theorem trans {u : State} (h : WorkedOuter st s t) (h' : Silent t u) : WorkedOuter st s u := by
  obtain ⟨v, hv, ht⟩ := h
  exact ⟨v, hv, ht.trans h'⟩

end WorkedOuter

/-- The checks of an admission passed. -/
theorem admitChecks_ok {s : State} {inp : StepInputs} {id : ConsignmentId} {cls : ClassNo} {comp : Byte} {c : CompNo}
    {k : ClassLimits} {i : SlotNo} (h : s.admitChecks inp id cls comp = .ok (c, k, i)) :
    id ≠ 0 ∧ namesActive inp comp c ∧ s.classes[cls] = some k ∧ s.idFree id ∧ s.slots[i] = none := by
  unfold State.admitChecks at h
  split at h
  · cases h
  · rename_i hid
    split at h
    · cases h
    · rename_i c' hc
      split at h
      · cases h
      · rename_i k' hk
        split at h
        · cases h
        · rename_i hfree
          split at h
          · cases h
          · rename_i i' hi
            cases h
            refine ⟨hid, activeField_some.mp hc, hk, findId_none.mp ?_, (firstFree_some.mp hi).1⟩
            simpa using hfree

section
variable {st : StepInProgress} {s : State}

theorem refuseAdmission_silent (row : CommandRow) (code : ResultCode) (s : State) :
    Silent s (refuseAdmission row code s).1 := by
  unfold refuseAdmission
  dsimp only
  split
  · exact Silent.raise _ _
  · exact Silent.refl _

theorem admitFreshWork_worked (id : ConsignmentId) (cls : ClassNo) (comp : Byte) :
    WorkedOuter st s (admitFreshWork st.inputs id cls comp s).1 := by
  unfold admitFreshWork
  split
  · exact .ofSilent (refuseAdmission_silent _ _ _)
  · rename_i c k i h
    obtain ⟨hid, ⟨-, hc⟩, hk, hfree, hi⟩ := admitChecks_ok h
    exact .of (.admitted hi hfree hid hk hc (.inl ⟨id, rfl⟩))

@[simp] theorem judgeCarried_id (v : Verdict) (o : Option ReasonCause) (l : List ReasonCause) (r : Record) :
    (judgeCarried v o l r).id = r.id := by
  unfold judgeCarried
  split <;> rfl

theorem admitCarriedWork_worked (b : List Byte) (cls : ClassNo) (comp : Byte) :
    WorkedOuter st s (admitCarriedWork st.inputs b cls comp s).1 := by
  unfold admitCarriedWork
  split
  · split
    · exact .ofSilent (refuseAdmission_silent _ _ _)
    · rename_i c k i h
      obtain ⟨hid, ⟨-, hc⟩, hk, hfree, hi⟩ := admitChecks_ok h
      have hrid : (carriedRecord st.inputs b cls k c).id = presentedId b := judgeCarried_id _ _ _ _
      exact .of (.admitted hi (by rwa [hrid]) (by rwa [hrid]) hk hc (.inr ⟨b, rfl⟩))
  · exact .ofSilent (refuseAdmission_silent _ _ _)

theorem discardWork_worked (id : ConsignmentId) : WorkedOuter st s (discardWork id s).1 := by
  unfold discardWork
  split
  · exact .same
  · rename_i i r h
    split
    · rename_i l hl
      exact .of (.discarded (findRecord_some h).1 hl)
    · exact .same
    · exact .same

theorem walkFrom_silent (row : CommandRow) (inp : StepInputs) (p : PortId) (f : WalkFilter) (s : State) :
    Silent s (walkFrom row inp p f s).1 := by
  unfold walkFrom
  split <;> exact Silent.setWalk _ _ _ _

theorem walkWork_silent (inp : StepInputs) (p : PortId) (f : Option WalkFilter) (s : State) :
    Silent s (walkWork inp p f s).1 := by
  unfold walkWork
  split
  · exact (Silent.setWalk _ _ _ _).trans (walkFrom_silent _ _ _ _ _)
  · exact Silent.refl _

theorem walkNextWork_silent (inp : StepInputs) (p : PortId) (s : State) : Silent s (walkNextWork inp p s).1 := by
  unfold walkNextWork
  split
  · exact walkFrom_silent _ _ _ _ _
  · exact Silent.refl _

theorem moveWork_worked (id : ConsignmentId) (dest : Byte) : WorkedOuter st s (moveWork st.inputs id dest s).1 := by
  unfold moveWork
  split
  · exact .same
  · rename_i i r h
    split
    · rename_i l hl
      split
      · exact .same
      · rename_i b hb
        dsimp only
        split
        · exact .same
        · exact .of (.moved (findRecord_some h).1 hl (activeField_some.mp hb).2)
    · exact .same
    · exact .same

theorem offerWork_worked (id : ConsignmentId) (own : Nat) : WorkedOuter st s (offerWork st.inputs id own s).1 := by
  unfold offerWork
  split
  · exact .same
  · rename_i i r h
    split
    · rename_i l hl
      split
      · exact .same
      · rename_i hroom
        exact .of (.offered (findRecord_some h).1 hl (Nat.lt_of_not_le hroom))
    · exact .same
    · exact .same

theorem withdrawWork_worked (id : ConsignmentId) : WorkedOuter st s (withdrawWork id s).1 := by
  unfold withdrawWork
  split
  · exact .same
  · rename_i i r h
    split
    · rename_i l d hl
      exact .of (.offerEnded (findRecord_some h).1 hl (.inl rfl))
    · exact .same
    · exact .same

theorem lapseWork_worked : WorkedOuter st s (lapseWork s) := by
  unfold lapseWork
  split
  · exact .same
  · split
    · rename_i r hr
      split
      · rename_i l d hl
        exact (WorkedOuter.of (.offerEnded hr hl (.inr rfl))).trans (Silent.raise _ _)
      · exact .same
      · exact .same
    · exact .same

theorem confirmWork_worked (id : ConsignmentId) (receiver : Wide) :
    WorkedOuter st s (confirmWork st.inputs id receiver s).1 := by
  unfold confirmWork
  split
  · exact .same
  · rename_i i r h
    split
    · rename_i l d hl
      split
      · exact .same
      · rename_i hunit
        split
        · rename_i k hk
          exact .of (.closed (findRecord_some h).1 hl hunit hk)
        · exact .same
    · exact .same
    · exact .same

theorem readStatementWork_worked (id : ConsignmentId) : WorkedOuter st s (readStatementWork st.inputs id s).1 := by
  unfold readStatementWork
  split
  · exact .same
  · rename_i i r h
    split
    · rename_i f hf
      exact .of (.statementRead (findRecord_some h).1 hf)
    · exact .same
    · exact .same

theorem retireWork_worked (id : ConsignmentId) (force : Bool) : WorkedOuter st s (retireWork id force s).1 := by
  unfold retireWork
  split
  · exact .same
  · rename_i i r h
    split
    · rename_i f hf
      split
      · exact .of (.retired (findRecord_some h).1 hf)
      · exact .same
    · exact .same
    · exact .same

theorem setClassWork_worked (k : ClassNo) (v : CarriedClass) : WorkedOuter st s (setClassWork k v s).1 := by
  unfold setClassWork
  split
  · exact .same
  · rename_i huse
    split
    · rename_i hord
      refine .of (.classSet (Nat.eq_zero_of_not_pos huse) ?_)
      rintro w ⟨⟩
      exact ⟨v, rfl, hord⟩
    · exact .same

theorem setClassUnsetWork_worked (k : ClassNo) : WorkedOuter st s (setClassUnsetWork k s).1 := by
  unfold setClassUnsetWork
  split
  · exact .same
  · rename_i huse
    exact .of (.classSet (Nat.eq_zero_of_not_pos huse) nofun)

theorem setCompartmentOffWork_worked {p : PortId} {c : CompNo} {v : Settings}
    (hw : st.work = .port p (.setCompartmentOff c v)) : WorkedOuter st s (setCompartmentOffWork c v s).1 := by
  unfold setCompartmentOffWork
  split
  · exact .same
  · rename_i hocc
    exact .of (.switchedOff hw (Nat.eq_zero_of_not_pos hocc))

theorem tableEmpty_iff (s : State) : s.tableEmpty = true ↔ ∀ i : SlotNo, s.slots[i] = none := by
  simp [State.tableEmpty, slotNumbers]

theorem setUnitIdWork_worked (v : Half) : WorkedOuter st s (setUnitIdWork v s).1 := by
  unfold setUnitIdWork
  split
  · rename_i hempty
    exact .of (.identitySet ((tableEmpty_iff s).mp hempty))
  · exact .same

/-- The work of a port's step. -/
theorem portWork_worked {p : PortId} {cmd : PortCommand} (hw : st.work = .port p cmd) :
    WorkedOuter st s (portWork p st.inputs s cmd).1 := by
  cases cmd with
  | admitFresh id cls comp => exact admitFreshWork_worked id cls comp
  | admitCarried b cls comp => exact admitCarriedWork_worked b cls comp
  | discard id => exact discardWork_worked id
  | find id =>
    refine .ofSilent ?_
    simp only [portWork, findWork]
    split <;> exact Silent.refl _
  | walk f => exact .ofSilent (walkWork_silent _ _ _ _)
  | walkNext => exact .ofSilent (walkNextWork_silent _ _ _)
  | move id dest => exact moveWork_worked id dest
  | moveTrial id dest => exact .same
  | moveAll => exact .same
  | offer id own => exact offerWork_worked id own
  | withdraw id => exact withdrawWork_worked id
  | confirm id receiver => exact confirmWork_worked id receiver
  | readStatement id => exact readStatementWork_worked id
  | retire id force => exact retireWork_worked id force
  | setClass k v => exact setClassWork_worked k v
  | setClassUnset k => exact setClassUnsetWork_worked k
  | setCompartmentOff c v => exact setCompartmentOffWork_worked hw
  | setClock v => exact .same
  | setUnitId v => exact setUnitIdWork_worked v

theorem moveAllSlotWork_worked (source dest : Byte) (i : SlotNo) :
    WorkedOuter st s (moveAllSlotWork st.inputs source dest i s).1 := by
  unfold moveAllSlotWork
  split
  · exact .same
  · split
    · rename_i r a b hr _ hb
      split
      · rename_i l hl
        split
        · exact .of (.moved hr hl (activeField_some.mp hb).2)
        · exact .same
      · exact .same
      · exact .same
    · exact .same

theorem State.setSlot_self {s : State} {i : SlotNo} {r : Record} (h : s.slots[i] = some r) :
    s.setSlot i (some r) = s := by
  simp only [State.setSlot, put, ← h]
  simp

theorem accrualWork_worked (hw : st.work = .accrual) : WorkedOuter st s (accrualWork st.inputs s) := by
  unfold accrualWork
  split
  · rename_i g hg
    unfold State.visitSlot
    split
    · rename_i r hr
      unfold accrualVisited
      split
      · rename_i l k n hl hk hn
        split
        · rename_i htag
          rw [State.raise_zero, State.setSlot_self hr]
          exact .same
        · rename_i htag
          exact (WorkedOuter.of (.charged hw hg hr hl hk hn htag)).trans (Silent.raise _ _)
      · rw [State.raise_zero, State.setSlot_self hr]
        exact .same
    · exact .same
  · exact .same

theorem gapWork_worked (hw : st.work = .gap) : WorkedOuter st s (gapWork st.inputs s) := by
  unfold gapWork
  split
  · rename_i he
    exact .of (.exempted hw he)
  · unfold State.visitSlot
    split
    · rename_i r hr
      unfold gapVisited
      split
      · rename_i l k hl hk
        exact (WorkedOuter.of (.gapCharged hw hr hl hk)).trans (Silent.raise _ _)
      · rw [State.raise_zero, State.setSlot_self hr]
        exact .same
    · exact .same
end

/-! ### The end of a table step -/

/-- How a step ends after its work: the engine free, and a pass advanced when the step was its visit. -/
inductive Finished (st : StepInProgress) (u : State) : State → Prop
  | port {t : State} (hw : st.work ≠ .accrual ∧ st.work ≠ .gap) (h : Outer u.freeEngine t) : Finished st u t
  | accrual {v : State} (hw : st.work = .accrual) (h : Outer u.freeEngine v) : Finished st u v.accrualAdvance
  | gap {v : State} (hw : st.work = .gap) (h : Outer u.freeEngine v) : Finished st u v.gapAdvance

theorem Outer.freeEngine {s t : State} (h : Outer s t) : Outer s.freeEngine t.freeEngine := by
  obtain ⟨_, _, _, _, rfl⟩ := h
  exact ⟨_, _, _, _, rfl⟩

/-- The slots after a pass's visit are those that its work leaves. -/
structure Visited (st : StepInProgress) (s u : State) : Prop where
  accrual : st.work = .accrual → u.slots = (accrualWork st.inputs s).slots
  gap : st.work = .gap → u.slots = (gapWork st.inputs s).slots

theorem Visited.of_other {st : StepInProgress} {s u : State} (hw : st.work ≠ .accrual ∧ st.work ≠ .gap) :
    Visited st s u :=
  ⟨fun h => absurd h hw.1, fun h => absurd h hw.2⟩

theorem Silent.slots {s t : State} (h : Silent s t) : s.slots = t.slots := by
  obtain ⟨⟨_, _, _, _, rfl⟩, -⟩ := h
  rfl

theorem finish_cases (s : State) (st : StepInProgress) :
    ∃ u, Worked st s u ∧ Visited st s u ∧ Finished st u (s.finish st) := by
  cases hw : st.work with
  | port p cmd =>
    obtain ⟨u, hu, ho⟩ := portWork_worked (s := s) hw
    have hother : st.work ≠ .accrual ∧ st.work ≠ .gap := by simp [hw]
    refine ⟨u, hu, .of_other hother, .port hother ?_⟩
    simp only [State.finish, hw, State.finishPort]
    split
    · split
      · exact ho.1.freeEngine.trans (Outer.clearWalk _ _)
      · exact ho.1.freeEngine
    · exact ho.1.freeEngine.trans (Outer.place _ _ _)
  | moveAllSlot a b i =>
    obtain ⟨u, hu, ho⟩ := moveAllSlotWork_worked (st := st) (s := s) a b i
    have hother : st.work ≠ .accrual ∧ st.work ≠ .gap := by simp [hw]
    refine ⟨u, hu, .of_other hother, .port hother ?_⟩
    simp only [State.finish, hw, State.finishMoveAll]
    split
    · exact ho.1.freeEngine
    · split
      · exact ho.1.freeEngine.trans (Outer.settleWalk _ _ _ _)
      · exact ho.1.freeEngine
  | accrual =>
    obtain ⟨u, hu, ho⟩ := accrualWork_worked (s := s) hw
    simp only [State.finish, hw]
    exact ⟨u, hu, ⟨fun _ => ho.slots, fun h => by simp [hw] at h⟩, .accrual hw ho.1.freeEngine⟩
  | gap =>
    obtain ⟨u, hu, ho⟩ := gapWork_worked (s := s) hw
    simp only [State.finish, hw]
    exact ⟨u, hu, ⟨fun h => by simp [hw] at h, fun _ => ho.slots⟩, .gap hw ho.1.freeEngine⟩
  | lapse =>
    obtain ⟨u, hu, ho⟩ := lapseWork_worked (st := st) (s := s)
    have hother : st.work ≠ .accrual ∧ st.work ≠ .gap := by simp [hw]
    simp only [State.finish, hw]
    exact ⟨u, hu, .of_other hother, .port hother ho.1.freeEngine⟩

/-! ### The loss and the return of main power -/

theorem Outer.powerDown {s t : State} (h : Outer s t) : t.powerDown = s.powerDown := by
  obtain ⟨_, _, _, _, rfl⟩ := h
  rfl

/-- The step in progress settled at a loss: its work done or not, and at most last snapshot time moved on. -/
theorem settleStep_powerDown (s : State) (completes : Bool) :
    ∃ (u : State) (time : RouteTime),
      (s.settleStep completes).powerDown = State.powerDown { u with lastSnapshotTime := time }
        ∧ (u = s ∨ ∃ st, s.engine = some st ∧ Worked st s u) := by
  unfold State.settleStep
  split
  · rename_i st hst
    split
    · have key : ∃ v, WorkedOuter st s v ∧ ∃ time, s.completeOnSupply st = { v with lastSnapshotTime := time } := by
        unfold State.completeOnSupply
        split
        · rename_i p cmd hw
          exact ⟨_, portWork_worked hw, _, rfl⟩
        · exact ⟨_, moveAllSlotWork_worked _ _ _, _, rfl⟩
        · rename_i hw
          exact ⟨_, accrualWork_worked hw, _, rfl⟩
        · rename_i hw
          split
          · exact ⟨_, gapWork_worked hw, _, rfl⟩
          · exact ⟨_, gapWork_worked hw, _, rfl⟩
        · exact ⟨_, lapseWork_worked, _, rfl⟩
      obtain ⟨v, ⟨u, hu, ⟨a, b, m, w, rfl⟩, -⟩, time, h⟩ := key
      exact ⟨u, time, by rw [h]; rfl, .inr ⟨st, hst, hu⟩⟩
    · exact ⟨s, s.lastSnapshotTime, rfl, .inl rfl⟩
  · exact ⟨s, s.lastSnapshotTime, rfl, .inl rfl⟩

/-- The compartments as a resume start's second stage forms them. -/
def State.resumedComps (s : State) : Vector Compartment 4 :=
  Vector.ofFn (fun c : CompNo => s.comps[c].resume s.clock s.doorLines[c] s.scanner.period)

/-- The state a whole resume start gives. -/
def State.resumed (s : State) : State := runStages resumeStages { s with power := .present }

/-- A start cut short on the resume path keeps all but the kind of start and, from its second stage on, the
compartments as formed. -/
theorem resumeCut_eq (s : State) (k : Nat) :
    ∃ (x : StartKind) (C : Vector Compartment 4), (C = s.comps ∨ C = s.resumedComps)
      ∧ (runStages (resumeStages.take k) { s with power := .present }).powerDown
        = State.powerDown { s with lastStart := x, comps := C } :=
  match k with
  | 0 => ⟨s.lastStart, s.comps, .inl rfl, rfl⟩
  | 1 => ⟨.resume, s.comps, .inl rfl, rfl⟩
  | 2 => ⟨.resume, s.resumedComps, .inr rfl, rfl⟩
  | 3 => ⟨.resume, s.resumedComps, .inr rfl, rfl⟩
  | 4 => ⟨.resume, s.resumedComps, .inr rfl, rfl⟩
  | k + 5 => ⟨.resume, s.resumedComps, .inr rfl, by
      rw [List.take_of_length_le (show resumeStages.length ≤ k + 5 by simp [resumeStages])]
      rfl⟩

/-- A start cut short on the blank path: nothing yet, or every retained item in its empty form. -/
theorem blankCut_eq (s : State) (k : Nat) :
    (runStages (blankStages.take k) { s with power := .present }).powerDown = s.powerDown
      ∨ ∃ b : Bool, (runStages (blankStages.take k) { s with power := .present }).powerDown
          = State.powerDown { s.writeEmpty with valid := b } :=
  match k with
  | 0 => .inl rfl
  | 1 => .inr ⟨s.valid, rfl⟩
  | 2 => .inr ⟨true, rfl⟩
  | k + 3 => .inr ⟨true, by
      rw [List.take_of_length_le (show blankStages.length ≤ k + 3 by simp [blankStages])]
      simp [runStages, blankStages, State.powerDown, State.writeEmpty, State.setMark, State.bringUpBlank, State.reset,
        Scanner.dark, Scanner.initial]⟩

end Sys2Proof.Machine
end

section
/-!
PROOFS. Every command makes one of the changes listed in `Changed`; a step takes the front command, or idles.
-/
namespace Sys2Proof.Machine

/-! ### The cases of one command -/

/-- What one command makes of the state, by what it does outside the ports. -/
inductive Changed (c : Instr) (s : State) : State → Prop
  /-- the ports alone -/
  | outer {t : State} (h : Outer s t) : Changed c s t
  /-- the ports, and the mark that discards the step in progress -/
  | discarded {t : State} (h : Outer s.discardStep t) : Changed c s t
  /-- a grant -/
  | granted {t : State} {r : Requester} {w : StepWork} (hr : s.mayGrant r = true)
      (haccrual : w = .accrual → r = .accrual) (hgap : w = .gap → r = .gap)
      (hport : ∀ p cmd, w = .port p cmd → (s.port p).phase = .waiting cmd) (h : Outer (s.grant r w) t)
      (hgrant : (grantTo c).isSome = true) : Changed c s t
  /-- the end of the step in progress -/
  | ended {t u : State} {st : StepInProgress} (hpower : s.power = .present) (hst : s.engine = some st)
      (hwork : Worked st s u) (h : Finished st u t) (hvisit : Visited st s u) : Changed c s t
  /-- settings with mode ACTIVE stored -/
  | stored {t : State} {k : CompNo} {bytes : List Byte} (hpower : s.power = .present)
      (hactive : (settingsField bytes).active = true)
      (h : Outer (s.storeActive k (settingsField bytes).clamped) t) : Changed c s t
  /-- a defrost command carried out -/
  | defrosted {t : State} {k : CompNo} {f : Compartment → Compartment} (hactive : s.comps[k].active = true)
      (hf : f = Compartment.startDefrost ∨ f = Compartment.endDefrost) (h : Outer (s.setComp k (f s.comps[k])) t) :
      Changed c s t
  /-- a scan period stored -/
  | periodSet {t : State} {b : Byte} (h : Outer (s.setScanPeriod (clampPeriod b)) t) : Changed c s t
  /-- an offer timeout stored -/
  | timeoutSet {t : State} {n : Nat} (h : Outer (s.setOfferTimeout (clampTimeout n)) t) : Changed c s t
  /-- the event of SET CLOCK -/
  | clockSet {t : State} {v : RouteTime} (hengine : s.engine = none) (h : Outer (s.shiftClock v) t) : Changed c s t
  /-- a route second -/
  | second (hc : c = .routeClockSecond) : Changed c s { s with clock := s.clock + 1 }
  /-- a door line's level alone -/
  | lineSet (k : CompNo) (b : Bool) : Changed c s (s.setDoorLine k b)
  /-- a door event, open -/
  | doorOpened {k : CompNo} (hactive : s.comps[k].active = true) :
      Changed c s ((s.setDoorLine k true).setComp k (s.comps[k].opened s.clock))
  /-- a door event, closed -/
  | doorShut {k : CompNo} (hactive : s.comps[k].active = true) :
      Changed c s ((s.setDoorLine k false).setComp k s.comps[k].shut)
  /-- a door-long deadline reached -/
  | doorLong {t : State} {k : CompNo} (h : Outer (s.setComp k { s.comps[k] with doorDeadline := none }) t) :
      Changed c s t
  /-- a tick that starts a scan -/
  | ticked {tick : RouteTime} (hpower : s.power = .present) (htick : s.scanner.nextTick = some tick)
      (hidle : s.scanner.phase = .idle) : Changed c s (s.takeTick tick).startScan
  /-- a tick missed -/
  | missed {tick : RouteTime} (hpower : s.power = .present) (htick : s.scanner.nextTick = some tick)
      (hbusy : s.scanner.phase ≠ .idle) : Changed c s (s.takeTick tick).missTick
  /-- a poll's end -/
  | polled {n : ProbeNo} {rest : List ProbeNo} {o : PollOutcome} (hpower : s.power = .present)
      (hphase : s.scanner.phase = .polling) : Changed c s (s.endPoll n rest o)
  /-- a loss of main power, the step in progress done or not -/
  | powerLost {u : State} {time : RouteTime} (hpower : s.power = .present)
      (hu : u = s ∨ ∃ st, s.engine = some st ∧ Worked st s u) (hrow : powerRow c = true) :
      Changed c s (State.powerDown { u with lastSnapshotTime := time })
  /-- a whole resume start -/
  | resumed (hpower : s.power = .lost) (hrow : powerRow c = true) : Changed c s s.resumed
  /-- a whole blank start -/
  | blankStarted (hpower : s.power = .lost) (hrow : powerRow c = true) : Changed c s s.bringUpBlank
  /-- a resume start cut short -/
  | resumeCut {x : StartKind} {C : Vector Compartment 4} (hpower : s.power = .lost)
      (hC : C = s.comps ∨ C = s.resumedComps) (hrow : powerRow c = true) :
      Changed c s (State.powerDown { s with lastStart := x, comps := C })
  /-- a blank start cut short -/
  | blankCut {b : Bool} (hpower : s.power = .lost) (hrow : powerRow c = true) :
      Changed c s (State.powerDown { s.writeEmpty with valid := b })
  /-- the retention supply's failure -/
  | unmarked (hpower : s.power = .lost) : Changed c s { s with valid := false }

/-- A close changes the ports alone unless it passes. -/
theorem closeFrame_changed {c : Instr} {s : State} {acc : State → State} (row : CommandRow) (p : PortId) (count : Nat)
    (forced : Bool) (h : s.power = .present → Changed c s (acc (s.endFrame p))) :
    Changed c s (closeFrame row p count forced id acc s) := by
  rcases closeFrame_cases row p count forced id acc s with ⟨-, he⟩ | ⟨r, -, -, he⟩ | ⟨hopen, -, he⟩ <;> rw [he]
  · exact .outer (Outer.refl s)
  · exact .outer ((Outer.endFrame _ _).trans (Outer.recordRefusal _ _ _ _ _))
  · refine h ?_
    cases hf : s.openFrame p with
    | none => simp [hf] at hopen
    | some fr => exact (State.openFrame_some.mp hf).1

/-- A queued command that waits for its owner changes the ports alone. -/
theorem closeFrame_waits {c : Instr} {s : State} (row : CommandRow) (p : PortId) (count : Nat) (forced : Bool)
    (cmd : PortCommand) : Changed c s (closeFrame row p count forced id (acceptWaiting p cmd) s) :=
  .outer (Outer.closeFrame Outer.refl (fun u => Outer.acceptWaiting u p cmd) row p count forced s)

/-- A queued command answered at once changes the ports alone. -/
theorem closeFrame_places {c : Instr} {s : State} (row : CommandRow) (p : PortId) (count : Nat) (forced : Bool)
    (r : State → Result) : Changed c s (closeFrame row p count forced id (fun u => u.place p (r u)) s) :=
  .outer (Outer.closeFrame Outer.refl (fun u => Outer.place u p (r u)) row p count forced s)

theorem endFrame_outer_of {s u t : State} {p : PortId} {f : State → State}
    (hf : ∀ a b : Port, f { s with unitPort := a, dockPort := b } = { f s with unitPort := a, dockPort := b })
    (hu : u = f (s.endFrame p)) (ht : Outer u t) : Outer (f s) t := by
  subst hu
  refine Outer.trans ?_ ht
  cases p
  · exact ⟨_, _, _, _, hf _ _⟩
  · exact ⟨_, _, _, _, hf _ _⟩

theorem beginPortStep_changed {c : Instr} (hc : (grantTo c).isSome = true) (p : PortId) (kind : PortCommand → Bool) (s : State) :
    Changed c s (beginPortStep p kind s) := by
  unfold beginPortStep
  split
  · rename_i cmd hph
    split
    · rename_i h
      rw [Bool.and_eq_true] at h
      refine .granted (w := .port p cmd) h.2 nofun nofun ?_ (Outer.setPhase _ _ _) hc
      rintro q cmd' ⟨⟩
      exact hph
    · exact .outer (Outer.refl s)
  · exact .outer (Outer.refl s)

theorem endStep_changed (c : Instr) (kind : StepWork → Bool) (s : State) : Changed c s (endStep kind s) := by
  unfold endStep
  split
  · rename_i st hst
    split
    · rename_i h
      rw [Bool.and_eq_true, State.powered, beq_iff_eq] at h
      obtain ⟨u, hu, hv, hf⟩ := finish_cases s st
      exact .ended h.1 hst hu hf hv
    · exact .outer (Outer.refl s)
  · exact .outer (Outer.refl s)

theorem portStep_changed {c : Instr} (p : PortId) (kind : PortCommand → Bool) (ph : StepPhase) (s : State)
    (hc : ph = .begins → (grantTo c).isSome = true) :
    Changed c s (portStep p kind ph s) := by
  cases ph
  · exact beginPortStep_changed (hc rfl) p kind s
  · exact endStep_changed c _ s

theorem requesterStep_changed {c : Instr} {r : Requester} {w : StepWork} (ph : StepPhase) (s : State)
    (haccrual : w = .accrual → r = .accrual) (hgap : w = .gap → r = .gap) (hport : ∀ p cmd, w ≠ .port p cmd)
    (hc : ph = .begins → (grantTo c).isSome = true) : Changed c s (requesterStep r w ph s) := by
  cases ph
  · simp only [requesterStep]
    split
    · rename_i h
      exact .granted h haccrual hgap (fun p cmd hw => absurd hw (hport p cmd)) (Outer.refl _) (hc rfl)
    · exact .outer (Outer.refl s)
  · exact endStep_changed c (fun v => v == w) s

theorem beginMoveAllSlot_changed {c : Instr} (hc : (grantTo c).isSome = true) (s : State) : Changed c s (beginMoveAllSlot s) := by
  unfold beginMoveAllSlot
  split
  · split
    · rename_i h
      exact .granted (w := .moveAllSlot _ _ _) h nofun nofun nofun (Outer.setPhase _ _ _) hc
    · exact .outer (Outer.refl s)
  · exact .outer (Outer.refl s)

theorem resetPort_changed (c : Instr) (s : State) (p : PortId) : Changed c s ((s.endFrame p).resetPort p) := by
  have hdrop : ∀ (u : State) (cmd : PortCommand), Outer u (u.dropMoveAll cmd) := by
    intro u cmd
    unfold State.dropMoveAll
    split
    · exact Outer.setMoveAll _ _
    · exact Outer.refl _
  have hend : Outer s (s.endFrame p) := Outer.endFrame s p
  unfold State.resetPort State.dropCommand
  split
  · exact .outer (hend.trans (Outer.setPort _ _ _))
  · exact .outer ((hend.trans (hdrop _ _)).trans (Outer.setPort _ _ _))
  · have hd : Outer s.discardStep (s.endFrame p).discardStep := by
      obtain ⟨_, _, _, _, h⟩ := hend
      rw [h]
      exact ⟨_, _, _, _, rfl⟩
    exact .discarded ((hd.trans (hdrop _ _)).trans (Outer.setPort _ _ _))
  · exact .outer (hend.trans (Outer.setPort _ _ _))

/-- The read and the direct commands. -/
theorem exec_direct_changed {c : Instr} {s t : State} (hq : queuedFrame c = none) {p : PortId} (hp : framePort c = some p)
    (h : exec c s = .next t) : Changed c s t := by
  have hid : ∀ u : State, Outer u (id u) := Outer.refl
  cases c <;> first
    | (cases hq; done)
    | (cases hp; done)
    | skip
  case frameRead p code =>
    cases h
    split
    · exact .outer (Outer.readFrame _ _ _)
    · exact .outer (Outer.refl _)
  case unknownCommandFrame p n =>
    cases h
    split
    · split
      · exact .outer (Outer.refl _)
      · exact .outer ((Outer.endFrame _ _).trans (Outer.recordRefusal _ _ _ _ _))
    · exact .outer (Outer.refl _)
  case readPortStatus p n =>
    cases h
    exact .outer (Outer.closeFrame hid (fun u => Outer.setPort _ _ _) _ _ _ _ _)
  case pollFlags p n =>
    cases h
    split
    · exact .outer (Outer.closeFrame hid (fun u => Outer.setPort _ _ _) _ _ _ _ _)
    · exact .outer (Outer.refl _)
  case setFlagMask p b =>
    cases h
    exact .outer (Outer.closeFrame (fun u => Outer.setPort _ _ _) (fun u => Outer.setPort _ _ _) _ _ _ _ _)
  case readResult p n =>
    cases h
    split
    · rename_i found n _
      refine .outer (Outer.closeFrame hid (fun u => ?_) _ _ _ _ _)
      cases found
      · exact Outer.setPort _ _ _
      · exact Outer.refl _
      · exact Outer.setPhase _ _ _
    · exact .outer (Outer.refl _)
  case cancel p n =>
    cases h
    split
    · exact .outer (Outer.closeFrame Outer.releaseWalk Outer.cancelWalk _ _ _ _ _)
    · exact .outer (Outer.closeFrame hid hid _ _ _ _ _)
    · exact .outer (Outer.refl _)
  case portReset p n =>
    cases h
    exact closeFrame_changed _ _ _ _ (fun _ => resetPort_changed _ _ _)

/-- SET COMPARTMENT at its close. -/
theorem setCompartment_changed (c : Instr) (p : PortId) (bytes : List Byte) (s t : State)
    (h : execSetCompartment p bytes s = .next t) : Changed c s t := by
  cases h
  refine closeFrame_changed _ _ _ _ fun hpower => ?_
  have hend : Outer s (s.endFrame p) := Outer.endFrame s p
  split
  · exact .outer (hend.trans (Outer.place _ _ _))
  · rename_i k _
    split
    · rename_i hactive
      exact .stored hpower hactive
        (endFrame_outer_of (f := fun u => u.storeActive k _) (fun _ _ => rfl) rfl (Outer.place _ _ _))
    · exact .outer (hend.trans (Outer.acceptWaiting _ _ _))

theorem defrostCommand_changed {c : Instr} {s : State} {row : CommandRow} {f : Compartment → Compartment}
    (hf : f = Compartment.startDefrost ∨ f = Compartment.endDefrost) (p : PortId) (b : Byte) (n : Nat) (forced : Bool) :
    Changed c s (closeFrame row p n forced id (defrostCommand row p b f) s) := by
  refine closeFrame_changed _ _ _ _ fun hpower => ?_
  unfold defrostCommand
  split
  · rename_i k hk
    have hactive : s.comps[k].active = true := by
      rw [State.endFrame_comps] at hk
      exact (activeField_some (inp := s.inputs).mp hk).2
    refine .defrosted hactive hf ?_
    rw [State.endFrame_comps]
    exact endFrame_outer_of (f := fun u => u.setComp k (f s.comps[k])) (fun _ _ => rfl) rfl (Outer.place _ _ _)
  · exact .outer ((Outer.endFrame _ _).trans (Outer.place _ _ _))

theorem setClock_changed (c : Instr) (p : PortId) (bytes : List Byte) (s t : State)
    (h : execSetClock p bytes s = .next t) : Changed c s t := by
  cases h
  refine closeFrame_changed _ _ _ _ fun hpower => ?_
  split
  · rename_i he
    rw [State.endFrame_engine, Option.isNone_iff_eq_none] at he
    exact .clockSet he (endFrame_outer_of (f := fun u => u.shiftClock _) (fun _ _ => rfl) rfl (Outer.place _ _ _))
  · exact .outer ((Outer.endFrame _ _).trans (Outer.acceptWaiting _ _ _))

/-- The queued commands at their close. -/
theorem exec_queued_changed {c : Instr} {f : QueuedFrame} {s t : State} (hq : queuedFrame c = some f)
    (h : exec c s = .next t) : Changed c s t := by
  cases c <;> first
    | (cases hq; done)
    | (cases h; exact closeFrame_waits _ _ _ _ _)
    | (cases h; exact closeFrame_places _ _ _ _ _)
    | skip
  case moveAll p b =>
    cases h
    exact .outer (Outer.closeFrame Outer.refl
      (fun u => (Outer.setMoveAll _ _).trans (Outer.acceptWaiting _ _ _)) _ _ _ _ _)
  case setOfferTimeout p b =>
    cases h
    exact closeFrame_changed _ _ _ _ fun _ => .timeoutSet
      (endFrame_outer_of (f := fun u => u.setOfferTimeout _) (fun _ _ => rfl) rfl (Outer.place _ _ _))
  case setCompartment p b => exact setCompartment_changed _ _ _ _ _ h
  case readCompartment p b =>
    cases h
    refine .outer (Outer.closeFrame Outer.refl (fun u => ?_) _ _ _ _ _)
    split <;> exact Outer.place _ _ _
  case defrostStart p b =>
    cases h
    exact defrostCommand_changed (.inl rfl) _ _ _ _
  case defrostEnd p b =>
    cases h
    exact defrostCommand_changed (.inr rfl) _ _ _ _
  case setScanPeriod p b =>
    cases h
    exact closeFrame_changed _ _ _ _ fun _ => .periodSet
      (endFrame_outer_of (f := fun u => u.setScanPeriod _) (fun _ _ => rfl) rfl (Outer.place _ _ _))
  case setClock p b => exact setClock_changed _ _ _ _ _ h

/-- The loss and the return of main power, and the failure of the retention supply. -/
theorem exec_power_changed {c : Instr} {s t : State}
    (hc : powerRow c = true ∨ c = .retentionSupplyFails) (h : exec c s = .next t) : Changed c s t := by
  have hlost : s.powered = false → s.power = .lost := by
    unfold State.powered
    cases s.power <;> simp
  cases c <;> first
    | (rcases hc with hc | hc <;> cases hc; done)
    | skip
  case mainPowerLoss b =>
    cases h
    split
    · rename_i hp
      obtain ⟨u, time, he, hu⟩ := settleStep_powerDown s b
      rw [he]
      exact .powerLost (by simpa [State.powered] using hp) hu rfl
    · exact .outer (Outer.refl s)
  case mainPowerReturn k =>
    cases h
    split
    · exact .outer (Outer.refl s)
    · rename_i hp
      have hl := hlost (by simpa using hp)
      unfold State.startStages
      cases k with
      | none =>
        dsimp only
        split
        · exact .resumed hl rfl
        · exact .blankStarted hl rfl
      | some k =>
        dsimp only
        split
        · obtain ⟨x, C, hC, he⟩ := resumeCut_eq s k
          rw [he]
          exact .resumeCut hl hC rfl
        · rcases blankCut_eq s k with he | ⟨b, he⟩ <;> rw [he]
          · exact .resumeCut (x := s.lastStart) hl (.inl rfl) rfl
          · exact .blankCut hl rfl
  case retentionSupplyFails =>
    cases h
    split
    · exact .outer (Outer.refl s)
    · rename_i hp
      exact .unmarked (hlost (by simpa using hp))

theorem endPoll_changed {c : Instr} {s : State} {m : ProbeNo} {rest : List ProbeNo} (h : s.polling = some (m, rest))
    (n : ProbeNo) (o : PollOutcome) : Changed c s (s.endPoll n rest o) := by
  unfold State.polling at h
  split at h
  · rename_i hp
    simp only [State.powered, Bool.and_eq_true, beq_iff_eq] at hp
    exact .polled hp.1 hp.2
  · cases h

/-- The step rows. -/
def stepsTable : Instr → Bool
  | .admitStep _ _ | .findStep _ _ | .walkStep _ _ | .moveStep _ | .trialMoveStep _ | .moveAllSlot _ | .discardStep _
  | .offerStep _ _ | .withdrawStep _ _ | .closeStep _ | .readStatementStep _ _ | .retireStep _ _ | .classTestStep _
  | .compartmentTestStep _ | .tableTestStep _ | .accrualVisit _ | .lapseStep _ | .gapVisit _ => true
  | _ => false

theorem exec_step_changed {c : Instr} {s t : State} (hc : stepsTable c = true) (h : exec c s = .next t) :
    Changed c s t := by
  cases c <;> first
    | (cases hc; done)
    | (cases h; exact portStep_changed _ _ _ _ (by rintro rfl; rfl))
    | skip
  case moveAllSlot ph =>
    cases ph <;> cases h
    · exact beginMoveAllSlot_changed rfl _
    · exact endStep_changed _ _ _
  case accrualVisit ph =>
    cases h
    exact requesterStep_changed ph s (fun _ => rfl) nofun nofun (by rintro rfl; rfl)
  case lapseStep ph =>
    cases h
    exact requesterStep_changed ph s nofun nofun nofun (by rintro rfl; rfl)
  case gapVisit ph =>
    cases h
    exact requesterStep_changed ph s nofun (fun _ => rfl) nofun (by rintro rfl; rfl)

/-- Every command makes one of the changes. -/
theorem exec_changed {c : Instr} {s t : State} (h : exec c s = .next t) : Changed c s t := by
  cases hq : queuedFrame c with
  | some f => exact exec_queued_changed hq h
  | none =>
    cases hp : framePort c with
    | some p => exact exec_direct_changed hq hp h
    | none =>
      cases hs : stepsTable c with
      | true => exact exec_step_changed hs h
      | false =>
        cases c <;> first
          | (cases hq; done)
          | (cases hp; done)
          | (cases hs; done)
          | skip
        case mainPowerLoss | mainPowerReturn => exact exec_power_changed (.inl rfl) h
        case retentionSupplyFails => exact exec_power_changed (.inr rfl) h
        case setClockEvent =>
          cases h
          split
          · split
            · rename_i hv he
              rw [Bool.and_eq_true, Option.isNone_iff_eq_none] at he
              exact .clockSet he.2 (Outer.place _ _ _)
            · exact .outer (Outer.refl s)
          · exact .outer (Outer.refl s)
        case routeClockSecond =>
          cases h
          exact .second rfl
        case doorOpens k =>
          cases h
          split_ifs with _ ha
          · exact .outer (Outer.refl s)
          · exact .doorOpened (Bool.and_eq_true_iff.mp ha).2
          · exact .lineSet _ _
        case doorCloses k =>
          cases h
          split_ifs with _ ha
          · exact .outer (Outer.refl s)
          · exact .doorShut (Bool.and_eq_true_iff.mp ha).2
          · exact .lineSet _ _
        case doorLong k =>
          cases h
          split_ifs
          · exact .doorLong (Outer.raise _ _)
          · exact .outer (Outer.refl s)
        case scanTick =>
          cases h
          split
          · rename_i tick htick
            split_ifs with hr hidle
            · exact .ticked (by simp_all [State.powered]) htick hidle
            · exact .missed (by simp_all [State.powered]) htick hidle
            · exact .outer (Outer.refl s)
          · exact .outer (Outer.refl s)
        case probeAnswer n a ok =>
          cases h
          split
          · rename_i m rest hm
            split
            · exact endPoll_changed hm _ _
            · exact .outer (Outer.refl s)
          · exact .outer (Outer.refl s)
        case probeSilent =>
          cases h
          split
          · rename_i m rest hm
            exact endPoll_changed hm _ _
          · exact .outer (Outer.refl s)
        case offerDeadlineReached =>
          cases h
          split
          · exact .outer ⟨_, _, _, _, rfl⟩
          · exact .outer (Outer.refl s)

/-! ### One step of the block -/

/-- What every command keeps, a step keeps: it takes the command at the front of the queue, or idles. -/
theorem step_keeps {P : State → Prop} (hq : ∀ (s : State) (q : List Instr), P s → P (s.withPending q))
    (he : ∀ (c : Instr) (s t : State), P s → Changed c s t → P t) {s t : State} (h : P s) (hs : step s = .next t) :
    P t := by
  unfold step at hs
  split at hs
  · exact he _ _ _ (hq _ _ h) (exec_changed hs)
  · cases hs
    exact h

end Sys2Proof.Machine
end

section
/-!
PROOFS. What one command can do to the slots of the Custody Table, and the invariants on the records they hold (R4 to R6,
R87, R92, R93, R140).
-/
namespace Sys2Proof.Machine

/-! ### Changes of the scanner and the passes -/

/-- Two states that differ at most in what scans and passes change. -/
def Scanned (s t : State) : Prop :=
  ∃ (C : Vector Compartment 4) (sc : Scanner) (pr : Vector Probe 8) (ex : ExposureEngine) (time : RouteTime)
    (lh lw : Bool) (a b : Port),
    t = { s with
      comps := C, scanner := sc, probes := pr, exposure := ex, lastSnapshotTime := time, lapseHeld := lh,
      lapseWaiting := lw, unitPort := a, dockPort := b }

namespace Scanned

theorem formIfPolled (s : State) : Scanned s s.formIfPolled := by
  unfold State.formIfPolled
  split <;> exact ⟨_, _, _, _, _, _, _, _, _, rfl⟩

theorem trans {s t u : State} (h : Scanned s t) (h' : Scanned t u) : Scanned s u := by
  obtain ⟨_, _, _, _, _, _, _, _, _, rfl⟩ := h
  obtain ⟨C, sc, pr, ex, time, lh, lw, a, b, rfl⟩ := h'
  exact ⟨C, sc, pr, ex, time, lh, lw, a, b, rfl⟩

theorem startScan (s : State) : Scanned s s.startScan :=
  trans ⟨_, _, _, _, _, _, _, _, _, rfl⟩ (formIfPolled _)

theorem passEnded (s : State) : Scanned s s.passEnded := by
  unfold State.passEnded
  split
  · exact trans ⟨_, _, _, _, _, _, _, _, _, rfl⟩ (startScan _)
  · exact ⟨_, _, _, _, _, _, _, _, _, rfl⟩

theorem accrualAdvance (s : State) : Scanned s s.accrualAdvance := by
  unfold State.accrualAdvance
  split
  · exact ⟨_, _, _, _, _, _, _, _, _, rfl⟩
  · exact trans ⟨_, _, _, _, _, _, _, _, _, rfl⟩ (passEnded _)

theorem gapAdvance (s : State) : Scanned s s.gapAdvance := by
  unfold State.gapAdvance
  split <;> exact ⟨_, _, _, _, _, _, _, _, _, rfl⟩

theorem endPoll (s : State) (n : ProbeNo) (rest : List ProbeNo) (o : PollOutcome) : Scanned s (s.endPoll n rest o) := by
  have h : Scanned s (s.recordOutcome n o) := by
    unfold State.recordOutcome
    split <;> exact ⟨_, _, _, _, _, _, _, _, _, rfl⟩
  exact (h.trans ⟨_, _, _, _, _, _, _, _, _, rfl⟩).trans (formIfPolled _)

end Scanned

/-- The end of a step frees the engine and changes nothing of the table beyond its work. -/
theorem Finished.scanned {st : StepInProgress} {u t : State} (h : Finished st u t) :
    ∃ v, Outer u.freeEngine v ∧ Scanned v t := by
  cases h with
  | port _ h => exact ⟨t, h, _, _, _, _, _, _, _, _, _, rfl⟩
  | accrual _ h => exact ⟨_, h, Scanned.accrualAdvance _⟩
  | gap _ h => exact ⟨_, h, Scanned.gapAdvance _⟩

/-! ### What a step writes into a slot -/

/-- What a step in progress writes into a slot. -/
inductive Written (st : StepInProgress) (s : State) (i : SlotNo) : Option Record → Prop
  | admitted {r : Record} {cls : ClassNo} {k : ClassLimits} {c : CompNo} (hfree : s.slots[i] = none)
      (hid : s.idFree r.id) (hzero : r.id ≠ 0) (hk : s.classes[cls] = some k)
      (hc : st.inputs.comps[c].active = true)
      (hr : (∃ id, r = freshRecord st.inputs id cls c) ∨ ∃ b, r = carriedRecord st.inputs b cls k c) :
      Written st s i (some r)
  | freed {r : Record} (hr : s.slots[i] = some r) : Written st s i none
  | moved {r : Record} {l : LiveFields} {b : CompNo} (hr : s.slots[i] = some r) (hl : r.custody = .aboard l) :
      Written st s i (some (r.moveTo st.inputs l b))
  | offered {r : Record} {l : LiveFields} {d : RouteTime} (hr : s.slots[i] = some r) (hl : r.custody = .aboard l) :
      Written st s i (some { r with custody := .offered l d })
  | offerEnded {r : Record} {l : LiveFields} {d : RouteTime} {lapses : Nat} (hr : s.slots[i] = some r)
      (hl : r.custody = .offered l d) (hlapses : lapses = r.lapses ∨ lapses = satAdd Config.maxLapses r.lapses 1) :
      Written st s i (some { r with custody := .aboard l, lapses := lapses })
  | closed {r : Record} {l : LiveFields} {d : RouteTime} {k : ClassLimits} {receiver : Wide}
      (hr : s.slots[i] = some r) (hl : r.custody = .offered l d) (hunit : s.unitId ≠ 0) (hk : s.classes[r.cls] = some k) :
      Written st s i
        (some { r with custody := .closed ((closingFields st.inputs s.unitId receiver k r l).withCheck r) })
  | statementRead {r : Record} {f : ClosedFields} (hr : s.slots[i] = some r) (hf : r.custody = .closed f) :
      Written st s i (some { r with custody := .closed { f with statementRead := true } })
  | charged {r : Record} {l : LiveFields} {k : ClassLimits} {n : Snapshot} {g : ScanTag}
      (hg : s.exposure.passTag = some g) (hr : s.slots[i] = some r) (hl : r.live = some l)
      (hk : s.classes[r.cls] = some k) (hn : st.inputs.comps[r.comp].snapshot = some n) (htag : l.tag ≠ g) :
      Written st s i (some (r.charge l k st.inputs.comps[r.comp].ceilingInForce n g).1)
  | gapCharged {r : Record} {l : LiveFields} {k : ClassLimits} (hw : st.work = .gap) (hr : s.slots[i] = some r)
      (hl : r.live = some l) (hk : s.classes[r.cls] = some k) :
      Written st s i (some (r.chargeGap l k s.exposure.gapAmount.toNat st.inputs.tag).1)

/-- What one command makes of the slots. -/
inductive SlotsChanged (s : State) : Vector (Option Record) 128 → Prop
  | same : SlotsChanged s s.slots
  | written {st : StepInProgress} {i : SlotNo} {x : Option Record} (hst : s.engine = some st) (h : Written st s i x) :
      SlotsChanged s (put s.slots i x)
  | shifted (d : BitVec 32) : SlotsChanged s (shiftNamed d s.offers s.slots)
  | emptied : SlotsChanged s (Vector.replicate 128 none)

@[simp] theorem State.exemptFromGap_slots (s : State) (i : SlotNo) : (s.exemptFromGap i).slots = s.slots := by
  unfold State.exemptFromGap
  split <;> rfl

theorem Worked.slotsChanged {st : StepInProgress} {s u : State} (hst : s.engine = some st) (h : Worked st s u) :
    SlotsChanged s u.slots := by
  cases h with
  | nothing => exact .same
  | admitted hfree hid hzero hk hc hr =>
    simp only [takeAboard_eq, State.raise_slots]
    exact .written hst (.admitted hfree hid hzero hk hc hr)
  | discarded hr hl => exact .written hst (.freed hr)
  | moved hr hl hb => exact .written hst (.moved hr hl)
  | offered hr hl hroom => exact .written hst (.offered hr hl)
  | offerEnded hr hl hlapses => exact .written hst (.offerEnded hr hl hlapses)
  | closed hr hl hunit hk => exact .written hst (.closed hr hl hunit hk)
  | statementRead hr hf => exact .written hst (.statementRead hr hf)
  | retired hr hf => exact .written hst (.freed hr)
  | classSet huse hv => exact .same
  | switchedOff hw hocc => exact .same
  | identitySet hempty => exact .same
  | charged hw hg hr hl hk hn htag => exact .written hst (.charged hg hr hl hk hn htag)
  | gapCharged hw hr hl hk => exact .written hst (.gapCharged hw hr hl hk)
  | exempted hw he => exact .same

theorem Outer.slots {s t : State} (h : Outer s t) : t.slots = s.slots := by
  obtain ⟨_, _, _, _, rfl⟩ := h
  rfl

theorem Scanned.slots {s t : State} (h : Scanned s t) : t.slots = s.slots := by
  obtain ⟨_, _, _, _, _, _, _, _, _, rfl⟩ := h
  rfl

theorem Changed.slotsChanged {c : Instr} {s t : State} (h : Changed c s t) : SlotsChanged s t.slots := by
  cases h with
  | outer h => rw [h.slots]; exact .same
  | discarded h => rw [h.slots]; exact .same
  | granted _ _ _ _ h => rw [h.slots]; exact .same
  | ended _ hst hwork h =>
    obtain ⟨v, hv, ht⟩ := h.scanned
    rw [ht.slots, hv.slots]
    have hslots := hwork.slotsChanged hst
    exact hslots
  | stored _ _ h => rw [h.slots]; exact .same
  | defrosted _ _ h => rw [h.slots]; exact .same
  | periodSet h => rw [h.slots]; exact .same
  | timeoutSet h => rw [h.slots]; exact .same
  | clockSet _ h => rw [h.slots]; exact .shifted _
  | second _ => exact .same
  | lineSet k b => exact .same
  | doorOpened _ => exact .same
  | doorShut _ => exact .same
  | doorLong h => rw [h.slots]; exact .same
  | ticked => rw [(Scanned.startScan _).slots]; exact .same
  | missed => exact .same
  | polled => rw [(Scanned.endPoll _ _ _ _).slots]; exact .same
  | powerLost _ hu =>
    rcases hu with rfl | ⟨st, hst, hwork⟩
    · exact .same
    · have hslots := hwork.slotsChanged hst
      exact hslots
  | resumed => exact .same
  | blankStarted => exact .emptied
  | resumeCut => exact .same
  | blankCut => exact .emptied
  | unmarked => exact .same

/-- A slot after a shift of the deadlines that the queue names. -/
theorem shiftNamed_get (d : BitVec 32) (offers : List Offer) (slots : Vector (Option Record) 128) (i : SlotNo) :
    (shiftNamed d offers slots)[i]
      = if offers.any (fun o => o.slot == i) then slots[i].map (·.shift d) else slots[i] := by
  simp [shiftNamed]

/-- It holds the record it held, with its deadline shifted or not. -/
theorem shiftNamed_some {d : BitVec 32} {offers : List Offer} {slots : Vector (Option Record) 128} {i : SlotNo}
    {q : Record} (h : (shiftNamed d offers slots)[i] = some q) :
    ∃ r, slots[i] = some r ∧ (q = r ∨ q = r.shift d) := by
  rw [shiftNamed_get] at h
  split at h
  · obtain ⟨r, hr, rfl⟩ := Option.map_eq_some_iff.mp h
    exact ⟨r, hr, .inr rfl⟩
  · exact ⟨q, h, .inl rfl⟩

/-- What one command leaves in a slot: what it held, what a step wrote, its record with a shifted deadline, or nothing. -/
theorem SlotsChanged.get {s : State} {slots : Vector (Option Record) 128} (h : SlotsChanged s slots) (i : SlotNo) :
    slots[i] = s.slots[i] ∨ (∃ st, s.engine = some st ∧ Written st s i slots[i])
      ∨ (∃ (r : Record) (d : BitVec 32), s.slots[i] = some r ∧ slots[i] = some (r.shift d)) ∨ slots[i] = none := by
  cases h with
  | same => exact .inl rfl
  | @written st j x hst h =>
    rw [put_get]
    split
    · rename_i hji
      subst hji
      exact .inr (.inl ⟨st, hst, h⟩)
    · exact .inl rfl
  | shifted d =>
    cases hq : (shiftNamed d s.offers s.slots)[i] with
    | none => exact .inr (.inr (.inr rfl))
    | some q =>
      obtain ⟨r, hr, rfl | rfl⟩ := shiftNamed_some hq
      · exact .inl hr.symm
      · exact .inr (.inr (.inl ⟨r, d, hr, rfl⟩))
  | emptied => exact .inr (.inr (.inr (by simp)))

/-- A property of records that every write keeps holds of every record after one command. -/
theorem Changed.keepsRecords {P : Record → Prop} {c : Instr} {s t : State} (h : Changed c s t)
    (hs : ∀ (i : SlotNo) (r : Record), s.slots[i] = some r → P r)
    (hshift : ∀ (r : Record) (d : BitVec 32), P r → P (r.shift d))
    (hwritten : ∀ (st : StepInProgress) (i : SlotNo) (q : Record), s.engine = some st → Written st s i (some q) → P q)
    (i : SlotNo) (q : Record) (hq : t.slots[i] = some q) : P q := by
  rcases h.slotsChanged.get i with hi | ⟨st, hst, hi⟩ | ⟨r, d, hr, hi⟩ | hi
  · exact hs i q (hi ▸ hq)
  · rw [hq] at hi
    exact hwritten st i q hst hi
  · rw [hq] at hi
    cases hi
    exact hshift r d (hs i r hr)
  · rw [hq] at hi
    cases hi

/-! ### A record after a shift, a move or a charge -/

/-- A custody whose offer deadline, if it has one, is shifted. -/
def Custody.shift (d : BitVec 32) : Custody → Custody
  | .aboard l => .aboard l
  | .offered l t => .offered l (t + d)
  | .closed f => .closed f

/-- A shift moves an OFFERED record's deadline and nothing else. -/
theorem Record.shift_eq (r : Record) (d : BitVec 32) : r.shift d = { r with custody := r.custody.shift d } := by
  obtain ⟨_, _, _, _, _, _, _, _, _, _, _, _, _, _, _, cu⟩ := r
  cases cu <;> rfl

@[simp] theorem Record.shift_id (r : Record) (d : BitVec 32) : (r.shift d).id = r.id := by rw [Record.shift_eq]

/-- A live record's custody with another charged tag. -/
def Custody.retag (g : ScanTag) : Custody → Custody
  | .aboard l => .aboard { l with tag := g }
  | .offered l d => .offered { l with tag := g } d
  | .closed f => .closed f

theorem withLive_retag {r : Record} {l : LiveFields} (h : r.live = some l) (g : ScanTag) :
    r.withLive { l with tag := g } = { r with custody := r.custody.retag g } := by
  rcases live_some h with hc | ⟨d, hc⟩ <;> simp_all [Record.live, Record.withLive, Custody.retag, Custody.live]

/-- The record after a charge with a tag: its figures, its judgement and its tag, and nothing else. -/
structure Charged (r q : Record) (g : ScanTag) : Prop where
  id : q.id = r.id
  cls : q.cls = r.cls
  comp : q.comp = r.comp
  admittedAt : q.admittedAt = r.admittedAt
  lapses : q.lapses = r.lapses
  carriedFrom : q.carriedFrom = r.carriedFrom
  custody : q.custody = r.custody.retag g

theorem applyReached_charged {r q : Record} {g : ScanTag} (h : Charged r q g) (reached : List ReasonCause) :
    Charged r (applyReached reached q).1 g := by
  obtain ⟨h1, h2, h3, h4, h5, h6, h7⟩ := h
  unfold applyReached
  dsimp only
  split <;> exact ⟨h1, h2, h3, h4, h5, h6, h7⟩

/-- The record whose figures stages 1 to 7 give, with its tag and its verdict as they were. -/
theorem chargeFigures_custody (r : Record) (k : ClassLimits) (ceiling : Int) (n : Snapshot) :
    (r.chargeFigures k ceiling n).1.custody = r.custody := by
  unfold Record.chargeFigures
  split <;> rfl

theorem chargeFigures_live {r : Record} {l : LiveFields} (h : r.live = some l) (k : ClassLimits) (ceiling : Int)
    (n : Snapshot) : (r.chargeFigures k ceiling n).1.live = some l := by
  rw [Record.live, chargeFigures_custody]
  exact h

theorem charge_eq {r : Record} {l : LiveFields} (h : r.live = some l) (k : ClassLimits) (ceiling : Int) (n : Snapshot)
    (g : ScanTag) :
    r.charge l k ceiling n g = applyReached (r.chargeFigures k ceiling n).2
      { (r.chargeFigures k ceiling n).1 with custody := r.custody.retag g } := by
  rw [Record.charge, withLive_retag (chargeFigures_live h k ceiling n), chargeFigures_custody]

theorem chargeGap_eq {r : Record} {l : LiveFields} (h : r.live = some l) (k : ClassLimits) (amount : Nat) (g : ScanTag) :
    r.chargeGap l k amount g = applyReached (blindTest k (satAdd Config.maxSeconds r.blind amount))
      { r with blind := satAdd Config.maxSeconds r.blind amount, custody := r.custody.retag g } := by
  have hl : (r.addBlind amount).live = some l := h
  rw [Record.chargeGap, withLive_retag hl]
  rfl

theorem charge_charged {r : Record} {l : LiveFields} (h : r.live = some l) (k : ClassLimits) (ceiling : Int)
    (n : Snapshot) (g : ScanTag) : Charged r (r.charge l k ceiling n g).1 g := by
  rw [charge_eq h]
  refine applyReached_charged ?_ _
  unfold Record.chargeFigures
  split <;> exact ⟨rfl, rfl, rfl, rfl, rfl, rfl, rfl⟩

theorem chargeGap_charged {r : Record} {l : LiveFields} (h : r.live = some l) (k : ClassLimits) (amount : Nat)
    (g : ScanTag) : Charged r (r.chargeGap l k amount g).1 g := by
  rw [chargeGap_eq h]
  refine applyReached_charged ?_ _
  exact ⟨rfl, rfl, rfl, rfl, rfl, rfl, rfl⟩

theorem Charged.live {r q : Record} {g : ScanTag} {l : LiveFields} (h : Charged r q g) (hl : r.live = some l) :
    q.live = some { l with tag := g } := by
  rw [Record.live, h.custody]
  rcases live_some hl with hc | ⟨d, hc⟩ <;> rw [hc] <;> rfl

theorem Charged.not_closed {r q : Record} {g : ScanTag} {l : LiveFields} (h : Charged r q g) (hl : r.live = some l)
    (f : ClosedFields) : q.custody ≠ .closed f := by
  intro hq
  have hlive := h.live hl
  rw [Record.live, hq] at hlive
  cases hlive

/-- A move changes the compartment and folds the door exposures. -/
theorem moveTo_eq {r : Record} {l : LiveFields} (hl : r.custody = .aboard l) (inp : StepInputs) (b : CompNo) :
    r.moveTo inp l b = { r with
      comp := b
      custody := .aboard
        { l with
          doorStored := doorExposures inp.comps[r.comp].openings l, doorBase := inp.comps[b].openings } } := by
  simp only [Record.moveTo, Record.withLive, hl]

/-! ### Closed statements verify (R107, R140) -/

/-- A record's closed statement, if it has one, verifies. -/
def StatementVerifies (r : Record) : Prop :=
  ∀ f : ClosedFields, r.custody = .closed f → verifies (closedStatement r f) = true

theorem statementVerifies_of_not_closed {r : Record} (h : ∀ f, r.custody ≠ .closed f) : StatementVerifies r :=
  fun f hf => absurd hf (h f)

/-- The statement of a record that a step writes verifies when those already held do. -/
theorem Written.statementVerifies {st : StepInProgress} {s : State} {i : SlotNo} {q : Record}
    (hs : ∀ (i : SlotNo) (r : Record), s.slots[i] = some r → StatementVerifies r) (h : Written st s i (some q)) :
    StatementVerifies q := by
  cases h with
  | admitted _ _ _ _ _ hr =>
    refine statementVerifies_of_not_closed fun f hf => ?_
    rcases hr with ⟨id, rfl⟩ | ⟨b, rfl⟩
    · cases hf
    · unfold carriedRecord judgeCarried at hf
      dsimp only at hf
      split at hf <;> cases hf
  | moved hr hl => exact statementVerifies_of_not_closed fun f hf => by rw [moveTo_eq hl] at hf; cases hf
  | offered hr hl => exact statementVerifies_of_not_closed nofun
  | offerEnded hr hl _ => exact statementVerifies_of_not_closed nofun
  | closed hr hl hunit hk =>
    rintro f ⟨⟩
    refine closedStatement_verifies hunit ?_
    rw [form_withCheck, withCheck_checkWord]
    rfl
  | statementRead hr hf =>
    rintro f' ⟨⟩
    have hread := hs _ _ hr _ hf
    exact hread
  | charged hg hr hl hk hn htag => exact statementVerifies_of_not_closed ((charge_charged hl _ _ _ _).not_closed hl)
  | gapCharged hw hr hl hk => exact statementVerifies_of_not_closed ((chargeGap_charged hl _ _ _).not_closed hl)

theorem StatementVerifies.shift {r : Record} (h : StatementVerifies r) (d : BitVec 32) :
    StatementVerifies (r.shift d) := by
  unfold Record.shift
  split
  · exact h
  · exact statementVerifies_of_not_closed nofun
  · exact h

/-- Settles O57: a close makes a verifying statement, and no other write touches a CLOSED record's statement. -/
theorem everyStepKeepsClosedStatementsVerifying : Obligations.EveryStepKeepsClosedStatementsVerifying := by
  intro s t hs hstep
  refine step_keeps (P := ClosedRight) (fun _ _ h => h) (fun c s t hs h => ?_) hs hstep
  exact fun i r f hr => h.keepsRecords (P := StatementVerifies) (fun i r hr f => hs i r f hr)
    (fun r d hr => hr.shift d) (fun st i q _ hw => hw.statementVerifies fun i r hr f => hs i r f hr) i r hr f

/-! ### IDs are distinct (R5, R6) -/

theorem judgeCarried_custody (v : Verdict) (o : Option ReasonCause) (l : List ReasonCause) (r : Record) :
    (judgeCarried v o l r).custody = r.custody := by
  unfold judgeCarried
  split <;> rfl

/-- A record written keeps the ID that its slot held, or takes one that no slot holds. -/
theorem Written.id_eq {st : StepInProgress} {s : State} {i : SlotNo} {q : Record} (h : Written st s i (some q)) :
    (∃ r, s.slots[i] = some r ∧ q.id = r.id) ∨ (q.id ≠ 0 ∧ s.idFree q.id) := by
  cases h with
  | admitted _ hid hzero _ _ _ => exact .inr ⟨hzero, hid⟩
  | moved hr hl => exact .inl ⟨_, hr, by rw [moveTo_eq hl]⟩
  | offered hr _ => exact .inl ⟨_, hr, rfl⟩
  | offerEnded hr _ _ => exact .inl ⟨_, hr, rfl⟩
  | closed hr _ _ _ => exact .inl ⟨_, hr, rfl⟩
  | statementRead hr _ => exact .inl ⟨_, hr, rfl⟩
  | charged _ hr hl _ _ _ => exact .inl ⟨_, hr, (charge_charged hl _ _ _ _).id⟩
  | gapCharged _ hr hl _ => exact .inl ⟨_, hr, (chargeGap_charged hl _ _ _).id⟩

/-- IDs stay distinct and not 0 when every record keeps its slot's ID, but for one slot that may take a free one. -/
theorem idsRight_of_kept {s t : State} (hs : IdsRight s) (i : SlotNo)
    (hother : ∀ (j : SlotNo) (q : Record), j ≠ i → t.slots[j] = some q → ∃ r, s.slots[j] = some r ∧ q.id = r.id)
    (hi : ∀ q, t.slots[i] = some q → (∃ r, s.slots[i] = some r ∧ q.id = r.id) ∨ (q.id ≠ 0 ∧ s.idFree q.id)) :
    IdsRight t := by
  have hcases : ∀ (j : SlotNo) (q : Record), t.slots[j] = some q →
      (∃ r, s.slots[j] = some r ∧ q.id = r.id) ∨ (j = i ∧ q.id ≠ 0 ∧ s.idFree q.id) := by
    intro j q hq
    by_cases hj : j = i
    · subst hj
      exact (hi q hq).imp_right fun h => ⟨rfl, h⟩
    · exact .inl (hother j q hj hq)
  obtain ⟨hzero, hdistinct⟩ := hs
  refine ⟨fun j q hq => ?_, fun j k q p hq hp hid => ?_⟩
  · rcases hcases j q hq with ⟨r, hr, h⟩ | ⟨-, h, -⟩
    · exact h ▸ hzero j r hr
    · exact h
  · rcases hcases j q hq with ⟨r, hr, h⟩ | ⟨rfl, -, hf⟩ <;> rcases hcases k p hp with ⟨r', hr', h'⟩ | ⟨rfl, -, hf'⟩
    · exact hdistinct j k r r' hr hr' (h ▸ h' ▸ hid)
    · exact absurd (h.symm.trans hid) (hf' j r hr)
    · exact absurd (h'.symm.trans hid.symm) (hf k r' hr')
    · rfl

/-- Settles O53: a step writes one slot, which keeps its ID or takes a free one; nothing else gives a slot an ID. -/
theorem everyStepKeepsIdsDistinct : Obligations.EveryStepKeepsIdsDistinct := by
  intro s t hs hstep
  refine step_keeps (P := IdsRight) (fun _ _ h => h) (fun c s t hs h => ?_) hs hstep
  have hslots := h.slotsChanged
  generalize hv : t.slots = slots at hslots
  cases hslots with
  | same => exact idsRight_of_kept hs 0 (fun j q _ hq => ⟨q, hv ▸ hq, rfl⟩) fun q hq => .inl ⟨q, hv ▸ hq, rfl⟩
  | @written st i x hst hw =>
    refine idsRight_of_kept hs i (fun j q hj hq => ?_) fun q hq => ?_
    · rw [hv, put_ne _ _ hj.symm] at hq
      exact ⟨q, hq, rfl⟩
    · rw [hv, put_get, if_pos rfl] at hq
      exact (hq ▸ hw).id_eq
  | shifted d =>
    have hget : ∀ (j : SlotNo) (q : Record), t.slots[j] = some q → ∃ r, s.slots[j] = some r ∧ q.id = r.id := by
      intro j q hq
      rw [hv] at hq
      obtain ⟨r, hr, rfl | rfl⟩ := shiftNamed_some hq
      · exact ⟨q, hr, rfl⟩
      · exact ⟨r, hr, r.shift_id d⟩
    exact idsRight_of_kept hs 0 (fun j q _ => hget j q) fun q hq => .inl (hget 0 q hq)
  | emptied =>
    refine idsRight_of_kept hs 0 (fun j q _ hq => ?_) fun q hq => ?_ <;> simp [hv] at hq

end Sys2Proof.Machine
end

section
/-!
PROOFS. What one command can do to a compartment, to a probe's reading, and to the step in progress.
-/
namespace Sys2Proof.Machine

/-! ### A compartment after one command -/

/-- A reading that a snapshot can take: one that a probe holds, or a recorded one, which is clamped. -/
def TakenFrom (s : State) (o : Option Int) : Prop :=
  ∀ t : Int, o = some t → (∃ n : ProbeNo, s.probes[n].reading = some t) ∨ ∃ x : Int, t = clampTemp x

/-- What one command makes of a compartment, but for a loss and a return of main power. -/
inductive CompChange (s : State) (c : CompNo) : Compartment → Prop
  | same : CompChange s c s.comps[c]
  | stored {bytes : List Byte} (hactive : (settingsField bytes).active = true) :
      CompChange s c (s.comps[c].store (settingsField bytes).clamped s.clock s.doorLines[c] s.scanner.period)
  | switchedOff {st : StepInProgress} {p : PortId} {v : Settings} (hst : s.engine = some st)
      (hw : st.work = .port p (.setCompartmentOff c v)) (hocc : s.occupancy[c] = 0) :
      CompChange s c (s.comps[c].switchOff v.clamped)
  | defrostStarted (hactive : s.comps[c].active = true) : CompChange s c s.comps[c].startDefrost
  | defrostEnded (hactive : s.comps[c].active = true) : CompChange s c s.comps[c].endDefrost
  | shifted (d : BitVec 32) :
      CompChange s c { s.comps[c] with doorDeadline := s.comps[c].doorDeadline.map (· + d) }
  | opened (hactive : s.comps[c].active = true) : CompChange s c (s.comps[c].opened s.clock)
  | shut (hactive : s.comps[c].active = true) : CompChange s c s.comps[c].shut
  | reported : CompChange s c { s.comps[c] with doorDeadline := none }
  | formed {sim air : Option Int} {span : Nat} (hactive : s.comps[c].active = true) (hsim : TakenFrom s sim)
      (hair : TakenFrom s air) (hspan : ScannerRight s.scanner → SpanRight span) :
      CompChange s c (s.comps[c].form sim air span s.clock)

/-- A compartment as a start forms it. -/
inductive CompStarted (s : State) (c : CompNo) : Compartment → Prop
  | resumed : CompStarted s c (s.comps[c].resume s.clock s.doorLines[c] s.scanner.period)
  | initial : CompStarted s c .initial

/-- The compartments after one command: changed under the same power, darkened by a loss, or started by a return. -/
inductive CompsChanged (s t : State) : Prop
  | kept (hp : t.power = s.power) (h : ∀ c : CompNo, CompChange s c t.comps[c])
  | darkened (hp : t.power = .lost)
      (h : ∀ c : CompNo, ∃ y, (CompChange s c y ∨ CompStarted s c y) ∧ t.comps[c] = y.dark)
  | started (h : ∀ c : CompNo, CompStarted s c t.comps[c])

/-- The readings that take part in a forming are the probes' own. -/
theorem partReading_some {s : State} {n : ProbeNo} {t : Int} (h : s.partReading n = some t) :
    s.probes[n].reading = some t := by
  unfold State.partReading at h
  dsimp only at h
  split at h
  · exact h
  · cases h

/-- Forming the snapshots on a state with the same compartments, whose probes hold the same readings or recorded ones. -/
theorem formSnapshots_comps {s u : State} (hcomps : u.comps = s.comps) (hclock : u.clock = s.clock)
    (hprobes : ∀ n : ProbeNo, TakenFrom s u.probes[n].reading)
    (hspan : ScannerRight s.scanner → SpanRight (u.scanner.span.getD 0)) (c : CompNo) :
    CompChange s c u.formSnapshots.comps[c] := by
  have hget : u.formSnapshots.comps[c] = u.formedComp (u.scanner.span.getD 0) c := by
    simp [State.formSnapshots]
  rw [hget]
  unfold State.formedComp
  rw [hcomps, hclock]
  split
  · rename_i hactive
    exact .formed hactive (fun t ht => hprobes _ t (partReading_some ht)) (fun t ht => hprobes _ t (partReading_some ht))
      hspan
  · exact .same

theorem TakenFrom.own (s : State) (n : ProbeNo) : TakenFrom s s.probes[n].reading := fun _ ht => .inl ⟨n, ht⟩

theorem CompChange.of_eq {s u : State} {c : CompNo} (h : u.comps = s.comps) : CompChange s c u.comps[c] := by
  rw [h]
  exact .same

/-- A period in force times one plus the lag is a span within range. -/
theorem spanRight_of_scanner {x : Scanner} (h : ScannerRight x) : SpanRight (x.periodInForce * (1 + x.lag)) := by
  obtain ⟨-, ⟨h1, h2⟩, h3, -⟩ := h
  constructor
  · exact Nat.mul_pos h1 (by omega)
  · calc x.periodInForce * (1 + x.lag) ≤ 50 * (1 + 1000) := Nat.mul_le_mul h2 (by omega)
      _ = 50050 := rfl

/-- After a poll, or at a scan's start: the snapshots formed or nothing yet. -/
theorem formIfPolled_comps {s u : State} (hcomps : u.comps = s.comps) (hclock : u.clock = s.clock)
    (hprobes : ∀ n : ProbeNo, TakenFrom s u.probes[n].reading)
    (hspan : ScannerRight s.scanner → SpanRight (u.scanner.span.getD 0)) (c : CompNo) :
    CompChange s c u.formIfPolled.comps[c] := by
  unfold State.formIfPolled
  split
  · exact formSnapshots_comps hcomps hclock hprobes hspan c
  · exact .of_eq hcomps

/-- A start of a scan on a state with the same compartments and probes. -/
theorem startScan_comps {s u : State} (hcomps : u.comps = s.comps) (hclock : u.clock = s.clock)
    (hprobes : u.probes = s.probes)
    (hspan : ScannerRight s.scanner → SpanRight (u.scanner.periodInForce * (1 + u.scanner.lag))) (c : CompNo) :
    CompChange s c u.startScan.comps[c] := by
  unfold State.startScan
  refine formIfPolled_comps ?_ ?_ (fun n => ?_) ?_ c
  · exact hcomps
  · exact hclock
  · have hreading : ∀ x : Option Int, x = s.probes[n].reading → TakenFrom s x := by
      rintro x rfl
      exact TakenFrom.own s n
    exact hreading _ (by simp [hprobes])
  · exact hspan

/-! ### What a step's work leaves of the other blocks -/

/-- A step's work leaves the clock, the scanner, the power and the probes' blocks; only a compartment test step changes a
compartment and its probes. -/
theorem Worked.comps {st : StepInProgress} {s u : State} (h : Worked st s u) :
    (u.comps = s.comps ∧ u.probes = s.probes) ∨ ∃ (p : PortId) (c : CompNo) (v : Settings),
      st.work = .port p (.setCompartmentOff c v) ∧ s.occupancy[c] = 0 ∧ u = s.storeOff c v.clamped := by
  cases h with
  | switchedOff hw hocc => exact .inr ⟨_, _, _, hw, hocc, rfl⟩
  | admitted hfree hid hzero hk hc hr =>
    rw [takeAboard_eq]
    exact .inl ⟨rfl, rfl⟩
  | _ => exact .inl ⟨rfl, rfl⟩

/-- The blocks that no step's work touches. -/
structure SameOutside (s u : State) : Prop where
  power : u.power = s.power
  clock : u.clock = s.clock
  scanner : u.scanner = s.scanner
  doorLines : u.doorLines = s.doorLines
  offerTimeout : u.offerTimeout = s.offerTimeout
  engine : u.engine = s.engine
  order : u.order = s.order
  lapseHeld : u.lapseHeld = s.lapseHeld

theorem Worked.sameOutside {st : StepInProgress} {s u : State} (h : Worked st s u) : SameOutside s u := by
  cases h with
  | admitted hfree hid hzero hk hc hr =>
    rw [takeAboard_eq]
    exact ⟨rfl, rfl, rfl, rfl, rfl, rfl, rfl, rfl⟩
  | _ => exact ⟨rfl, rfl, rfl, rfl, rfl, rfl, rfl, rfl⟩

/-- The compartments after a step's work. -/
theorem Worked.compChange {st : StepInProgress} {s u : State} (hst : s.engine = some st) (h : Worked st s u) (c : CompNo) :
    CompChange s c u.comps[c] := by
  rcases h.comps with ⟨hc, -⟩ | ⟨p, k, v, hw, hocc, rfl⟩
  · exact .of_eq hc
  · show CompChange s c (put s.comps k (s.comps[k].switchOff v.clamped))[c]
    rw [put_get]
    split
    · rename_i hk
      subst hk
      exact .switchedOff hst hw hocc
    · exact .same

theorem Worked.not_off {st : StepInProgress} {s u : State} (h : Worked st s u) (hw : ∀ p cmd, st.work ≠ .port p cmd) :
    u.comps = s.comps ∧ u.probes = s.probes := by
  rcases h.comps with h | ⟨p, k, v, hw', -, -⟩
  · exact h
  · exact absurd hw' (hw _ _)

theorem Outer.comps {s t : State} (h : Outer s t) : t.comps = s.comps := by
  obtain ⟨_, _, _, _, rfl⟩ := h
  rfl

theorem Outer.probes {s t : State} (h : Outer s t) : t.probes = s.probes := by
  obtain ⟨_, _, _, _, rfl⟩ := h
  rfl

theorem Outer.clock {s t : State} (h : Outer s t) : t.clock = s.clock := by
  obtain ⟨_, _, _, _, rfl⟩ := h
  rfl

theorem Outer.scanner {s t : State} (h : Outer s t) : t.scanner = s.scanner := by
  obtain ⟨_, _, _, _, rfl⟩ := h
  rfl

/-- The compartments after an accrual pass's advance: a late scan with nothing to poll forms them. -/
theorem accrualAdvance_comps {s v : State} (hcomps : v.comps = s.comps) (hclock : v.clock = s.clock)
    (hprobes : v.probes = s.probes) (hscanner : v.scanner = s.scanner) (c : CompNo) :
    CompChange s c v.accrualAdvance.comps[c] := by
  unfold State.accrualAdvance
  split
  · exact .of_eq hcomps
  · unfold State.passEnded
    split
    · refine startScan_comps ?_ ?_ ?_ (fun h => ?_) c
      · exact hcomps
      · exact hclock
      · exact hprobes
      · have hspan := spanRight_of_scanner h
        rw [← hscanner] at hspan
        exact hspan
    · exact .of_eq hcomps

theorem gapAdvance_comps (v : State) : v.gapAdvance.comps = v.comps := by
  unfold State.gapAdvance
  split <;> rfl

theorem Finished.compChange {st : StepInProgress} {s u t : State} (hst : s.engine = some st) (hwork : Worked st s u)
    (h : Finished st u t) (c : CompNo) : CompChange s c t.comps[c] := by
  cases h with
  | port _ h =>
    rw [h.comps]
    exact hwork.compChange hst c
  | accrual hw h =>
    obtain ⟨hcomps, hprobes⟩ := hwork.not_off (by simp [hw])
    have hsame := hwork.sameOutside
    refine accrualAdvance_comps ?_ ?_ ?_ ?_ c
    · rw [h.comps]; exact hcomps
    · rw [h.clock]; exact hsame.clock
    · rw [h.probes]; exact hprobes
    · rw [h.scanner]; exact hsame.scanner
  | gap hw h =>
    rw [gapAdvance_comps, h.comps]
    exact .of_eq (hwork.not_off (by simp [hw])).1

theorem Finished.power {st : StepInProgress} {u t : State} (h : Finished st u t) : t.power = u.power := by
  obtain ⟨v, ⟨_, _, _, _, rfl⟩, _, _, _, _, _, _, _, _, _, rfl⟩ := h.scanned
  rfl

theorem startScan_power (s : State) : s.startScan.power = s.power := by
  obtain ⟨_, _, _, _, _, _, _, _, _, h⟩ := Scanned.startScan s
  rw [h]

/-- A probe after an outcome is recorded holds its reading or a clamped one. -/
theorem recordOutcome_reading (s : State) (n m : ProbeNo) (o : PollOutcome) :
    TakenFrom s (s.recordOutcome n o).probes[m].reading := by
  unfold State.recordOutcome
  split
  · show TakenFrom s (put s.probes n (s.probes[n].record o))[m].reading
    rw [put_get]
    split
    · intro t ht
      cases o with
      | temperature x =>
        cases ht
        exact .inr ⟨x, rfl⟩
      | openElement | shortElement | silent => cases ht
    · exact TakenFrom.own s m
  · exact TakenFrom.own s m

theorem recordOutcome_kept (s : State) (n : ProbeNo) (o : PollOutcome) :
    (s.recordOutcome n o).comps = s.comps ∧ (s.recordOutcome n o).clock = s.clock
      ∧ (s.recordOutcome n o).scanner = s.scanner := by
  unfold State.recordOutcome
  split <;> exact ⟨rfl, rfl, rfl⟩

/-- The compartments after a poll's end. -/
theorem endPoll_comps (s : State) (n : ProbeNo) (rest : List ProbeNo) (o : PollOutcome)
    (hphase : s.scanner.phase = .polling) (c : CompNo) : CompChange s c (s.endPoll n rest o).comps[c] := by
  obtain ⟨hcomps, hclock, hscanner⟩ := recordOutcome_kept s n o
  unfold State.endPoll
  refine formIfPolled_comps ?_ ?_ (fun m => ?_) (fun h => ?_) c
  · exact hcomps
  · exact hclock
  · exact recordOutcome_reading s n m o
  obtain ⟨-, -, -, hspan, hright⟩ := h
  obtain ⟨x, hx⟩ := Option.isSome_iff_exists.mp (hspan.mpr (by simp [hphase]))
  have hget : (s.recordOutcome n o).scanner.span = some x := by rw [hscanner, hx]
  show SpanRight ((s.recordOutcome n o).scanner.span.getD 0)
  rw [hget]
  exact hright x hx

theorem Outer.power {s t : State} (h : Outer s t) : t.power = s.power := by
  obtain ⟨_, _, _, _, rfl⟩ := h
  rfl

/-- A command that changes one compartment changes that one alone. -/
theorem CompsChanged.put {s u t : State} {k : CompNo} {x : Compartment} (h : Outer u t)
    (hp : u.power = s.power) (hcomps : u.comps = put s.comps k x) (hx : CompChange s k x) : CompsChanged s t := by
  refine .kept (h.power.trans hp) fun c => ?_
  rw [h.comps, hcomps, put_get]
  split
  · rename_i hk
    exact hk ▸ hx
  · exact .same

/-- The compartments of a command that leaves them. -/
theorem CompsChanged.of_eq {s t : State} (hp : t.power = s.power) (hcomps : t.comps = s.comps) : CompsChanged s t :=
  .kept hp fun _ => .of_eq hcomps

theorem resumed_comps (s : State) (c : CompNo) :
    s.resumed.comps[c] = s.comps[c].resume s.clock s.doorLines[c] s.scanner.period := by
  show (Vector.ofFn (fun c : CompNo => s.comps[c].resume s.clock s.doorLines[c] s.scanner.period))[c] = _
  simp

theorem powerDown_comps (s : State) (c : CompNo) : s.powerDown.comps[c] = s.comps[c].dark := by
  simp [State.powerDown]

/-- The compartments after every command. -/
theorem Changed.comps {c : Instr} {s t : State} (h : Changed c s t) : CompsChanged s t := by
  cases h with
  | outer h => exact .of_eq h.power h.comps
  | discarded h => exact .of_eq h.power h.comps
  | granted _ _ _ _ h => exact .of_eq h.power h.comps
  | ended _ hst hwork h =>
    exact .kept (h.power.trans hwork.sameOutside.power) fun c => h.compChange hst hwork c
  | stored _ ha h => exact .put h rfl rfl (.stored ha)
  | defrosted ha hf h =>
    rcases hf with rfl | rfl
    · exact .put h rfl rfl (.defrostStarted ha)
    · exact .put h rfl rfl (.defrostEnded ha)
  | periodSet h => exact .of_eq h.power h.comps
  | timeoutSet h => exact .of_eq h.power h.comps
  | @clockSet _ v _ h =>
    refine .kept h.power fun c => ?_
    rw [h.comps, State.shiftClock_comps]
    have hget := CompChange.shifted (s := s) (c := c) (v - s.clock)
    simpa using hget
  | second _ => exact .of_eq rfl rfl
  | lineSet k b => exact .of_eq rfl rfl
  | doorOpened ha => exact .put (Outer.refl _) rfl rfl (.opened ha)
  | doorShut ha => exact .put (Outer.refl _) rfl rfl (.shut ha)
  | doorLong h => exact .put h rfl rfl .reported
  | @ticked tick _ _ _ =>
    refine .kept (startScan_power _) fun c => startScan_comps (s := s) (u := s.takeTick tick) rfl rfl rfl (fun h => ?_) c
    obtain ⟨hperiod, hforce, hlag, hrest⟩ := h
    have hspan := spanRight_of_scanner (x := { s.scanner with periodInForce := s.scanner.period })
      ⟨hperiod, hperiod, hlag, hrest⟩
    exact hspan
  | missed => exact .of_eq rfl rfl
  | @polled n rest o _ hphase =>
    refine .kept ?_ fun c => endPoll_comps s n rest o hphase c
    obtain ⟨_, _, _, _, _, _, _, _, _, he⟩ := Scanned.endPoll s n rest o
    rw [he]
  | @powerLost u time _ hu =>
    refine .darkened rfl fun c => ⟨u.comps[c], .inl ?_, powerDown_comps _ c⟩
    rcases hu with rfl | ⟨st, hst, hwork⟩
    · exact .same
    · exact hwork.compChange hst c
  | resumed _ => exact .started fun c => by rw [resumed_comps]; exact .resumed
  | blankStarted _ => exact .started fun c => by simp [State.bringUpBlank, State.reset]; exact .initial
  | @resumeCut x C _ hC =>
    refine .darkened rfl fun c => ⟨C[c], ?_, powerDown_comps _ c⟩
    rcases hC with rfl | rfl
    · exact .inl .same
    · refine .inr ?_
      have hget : s.resumedComps[c] = s.comps[c].resume s.clock s.doorLines[c] s.scanner.period := by
        simp [State.resumedComps]
      rw [hget]
      exact .resumed
  | blankCut _ =>
    refine .darkened rfl fun c => ⟨.initial, .inr .initial, ?_⟩
    rw [powerDown_comps]
    simp [State.writeEmpty]
  | unmarked _ => exact .of_eq rfl rfl

/-! ### The probes' readings -/

/-- A probe served or not by new settings keeps its reading or has none. -/
theorem serve_reading (a b : Bool) (x : Probe) : (x.serve a b).reading = x.reading ∨ (x.serve a b).reading = none := by
  unfold Probe.serve
  split_ifs
  · exact .inl rfl
  · exact .inr rfl
  · exact .inr rfl

theorem serveProbes_reading (s : State) (k : CompNo) (a b : Settings) (n : ProbeNo) :
    TakenFrom s (serveProbes k a b s.probes)[n].reading := by
  rw [serveProbes_get]
  split
  · exact TakenFrom.own s n
  · rcases serve_reading (servedBy a n) (servedBy b n) s.probes[n] with h | h <;> rw [h]
    · exact TakenFrom.own s n
    · exact nofun

theorem TakenFrom.of_probes {s t : State} {n : ProbeNo} (h : t.probes[n].reading = s.probes[n].reading) :
    TakenFrom s t.probes[n].reading := by
  rw [h]
  exact TakenFrom.own s n

theorem formIfPolled_probes (s : State) : s.formIfPolled.probes = s.probes := by
  unfold State.formIfPolled
  split <;> rfl

theorem startScan_reading (s : State) (n : ProbeNo) : s.startScan.probes[n].reading = s.probes[n].reading := by
  unfold State.startScan
  rw [formIfPolled_probes]
  simp

theorem accrualAdvance_reading (s : State) (n : ProbeNo) : s.accrualAdvance.probes[n].reading = s.probes[n].reading := by
  unfold State.accrualAdvance
  split
  · rfl
  · unfold State.passEnded
    split
    · exact startScan_reading _ n
    · rfl

theorem gapAdvance_probes (s : State) : s.gapAdvance.probes = s.probes := by
  unfold State.gapAdvance
  split <;> rfl

theorem Worked.reading {st : StepInProgress} {s u : State} (h : Worked st s u) (n : ProbeNo) :
    TakenFrom s u.probes[n].reading := by
  rcases h.comps with ⟨-, hp⟩ | ⟨p, k, v, -, -, rfl⟩
  · exact .of_probes (by rw [hp])
  · exact serveProbes_reading s k _ _ n

theorem Finished.reading {st : StepInProgress} {u t : State} (h : Finished st u t) (n : ProbeNo) :
    t.probes[n].reading = u.probes[n].reading := by
  cases h with
  | port _ h => rw [h.probes]; rfl
  | accrual _ h => rw [accrualAdvance_reading, h.probes]; rfl
  | gap _ h => rw [gapAdvance_probes, h.probes]; rfl

theorem TakenFrom.absent {s t : State} {n : ProbeNo} (h : t.probes[n].reading = none) :
    TakenFrom s t.probes[n].reading := by
  rw [h]
  exact nofun

/-- A probe's reading after every command: one that a probe held, a clamped one, or none. -/
theorem Changed.reading {c : Instr} {s t : State} (h : Changed c s t) (n : ProbeNo) :
    TakenFrom s t.probes[n].reading := by
  cases h with
  | outer h => rw [h.probes]; exact TakenFrom.own s n
  | discarded h => rw [h.probes]; exact TakenFrom.own s n
  | granted _ _ _ _ h => rw [h.probes]; exact TakenFrom.own s n
  | ended _ hst hwork h =>
    rw [h.reading]
    exact hwork.reading n
  | stored _ ha h =>
    rw [h.probes]
    exact serveProbes_reading s _ _ _ n
  | defrosted ha hf h => rw [h.probes]; exact TakenFrom.own s n
  | periodSet h => rw [h.probes]; exact TakenFrom.own s n
  | timeoutSet h => rw [h.probes]; exact TakenFrom.own s n
  | clockSet _ h => rw [h.probes]; exact TakenFrom.own s n
  | second _ => exact TakenFrom.own s n
  | lineSet k b => exact TakenFrom.own s n
  | doorOpened ha => exact TakenFrom.own s n
  | doorShut ha => exact TakenFrom.own s n
  | doorLong h => rw [h.probes]; exact TakenFrom.own s n
  | ticked _ _ _ => exact .of_probes (startScan_reading _ n)
  | missed => exact TakenFrom.own s n
  | @polled m rest o _ _ =>
    unfold State.endPoll
    rw [formIfPolled_probes]
    exact recordOutcome_reading s m n o
  | powerLost _ _ => exact .absent (by simp [State.powerDown, Probe.outOfService])
  | resumed _ =>
    refine .absent ?_
    show (Vector.ofFn (fun n : ProbeNo => if s.resumePorts.resumeComps.inService n then Probe.entered
      else .outOfService))[n].reading = none
    rw [Fin.getElem_fin, Vector.getElem_ofFn]
    split <;> rfl
  | blankStarted _ => exact .absent (by simp [State.bringUpBlank, State.reset, Probe.outOfService])
  | resumeCut _ _ => exact .absent (by simp [State.powerDown, Probe.outOfService])
  | blankCut _ => exact .absent (by simp [State.powerDown, Probe.outOfService])
  | unmarked _ => exact TakenFrom.own s n

/-! ### The step in progress -/

/-- The step in progress after one command: none, the one before, the one before with its result discarded, or a new one
that has read what stands. -/
inductive EngineChanged (s t : State) : Prop
  | same (h : t.engine = s.engine)
  | none (h : t.engine = none)
  | discarded (st : StepInProgress) (hst : s.engine = some st) (h : t.engine = some { st with discarded := true })
  | begun (w : StepWork) (h : t.engine = some { work := w, inputs := t.inputs, discarded := false })

theorem Outer.engine {s t : State} (h : Outer s t) : t.engine = s.engine := by
  obtain ⟨_, _, _, _, rfl⟩ := h
  rfl

theorem Outer.inputs {s t : State} (h : Outer s t) : t.inputs = s.inputs := by
  obtain ⟨_, _, _, _, rfl⟩ := h
  rfl

theorem Scanned.engine {s t : State} (h : Scanned s t) : t.engine = s.engine := by
  obtain ⟨_, _, _, _, _, _, _, _, _, rfl⟩ := h
  rfl

theorem Finished.engine {st : StepInProgress} {u t : State} (h : Finished st u t) : t.engine = none := by
  obtain ⟨v, hv, ht⟩ := h.scanned
  rw [ht.engine, hv.engine]
  rfl

theorem Changed.engine {c : Instr} {s t : State} (h : Changed c s t) : EngineChanged s t := by
  cases h with
  | outer h => exact .same h.engine
  | discarded h =>
    cases he : s.engine with
    | none => exact .none (by rw [h.engine]; simp [State.discardStep, he])
    | some st => exact .discarded st he (by rw [h.engine]; simp [State.discardStep, he])
  | granted _ _ _ _ h => exact .begun _ (by rw [h.engine, h.inputs]; rfl)
  | ended _ _ _ h => exact .none h.engine
  | stored _ _ h => exact .same h.engine
  | defrosted _ _ h => exact .same h.engine
  | periodSet h => exact .same h.engine
  | timeoutSet h => exact .same h.engine
  | clockSet _ h => exact .same h.engine
  | second _ => exact .same rfl
  | lineSet k b => exact .same rfl
  | doorOpened _ => exact .same rfl
  | doorShut _ => exact .same rfl
  | doorLong h => exact .same h.engine
  | ticked => exact .same (Scanned.startScan _).engine
  | missed => exact .same rfl
  | polled => exact .same (Scanned.endPoll _ _ _ _).engine
  | powerLost => exact .none rfl
  | resumed => exact .begun .gap rfl
  | blankStarted => exact .none rfl
  | resumeCut => exact .none rfl
  | blankCut => exact .none rfl
  | unmarked => exact .same rfl

end Sys2Proof.Machine
end

section
/-!
PROOFS. The figures, judgements and temperatures of records after one command (R87, R92, R93, Conventions).
-/
namespace Sys2Proof.Machine

/-! ### A judged record -/

/-- Applying the verdicts reached changes the judgement alone. -/
theorem applyReached_judged (reached : List ReasonCause) (r : Record) :
    ∃ (v : Verdict) (c : Cause) (o : Option ReasonCause),
      (applyReached reached r).1 = { r with verdict := v, cause := c, carriedCause := o } := by
  unfold applyReached
  dsimp only
  split
  · exact ⟨_, _, _, rfl⟩
  · exact ⟨r.verdict, r.cause, r.carriedCause, rfl⟩

/-- So does the judgement of a carried admission. -/
theorem judgeCarried_judged (v : Verdict) (o : Option ReasonCause) (reached : List ReasonCause) (r : Record) :
    ∃ (w : Verdict) (c : Cause) (p : Option ReasonCause),
      judgeCarried v o reached r = { r with verdict := w, cause := c, carriedCause := p } := by
  unfold judgeCarried
  split <;> exact ⟨_, _, _, rfl⟩

/-- A verdict applied in one act never falls. -/
theorem applyReached_rank (reached : List ReasonCause) (r : Record) :
    r.verdict.rank ≤ (applyReached reached r).1.verdict.rank := by
  unfold applyReached
  dsimp only
  split
  · rename_i h
    exact Nat.le_of_lt h
  · exact le_rfl

/-- A cause that agrees with its verdict still does after the verdicts reached are applied. -/
theorem applyReached_causeAgrees (reached : List ReasonCause) {r : Record} (h : CauseAgrees r) :
    CauseAgrees (applyReached reached r).1 := by
  obtain ⟨w, -, hw⟩ := verdictRisesInOneAct reached r
  split at hw
  · rw [hw.1]
    exact h
  · obtain ⟨c, ⟨-, hc, -⟩, hq, -⟩ := hw
    rw [hq]
    exact ⟨hc, rfl⟩

/-- The reason cause read with a carried verdict above INTACT names that verdict (R100). -/
theorem presentedCause_verdict {v : Verdict} (hv : v ≠ .intact) (b : Byte) :
    ∃ c : ReasonCause, presentedCause v b = some c ∧ c.verdict = v := by
  unfold presentedCause
  cases h : (reasonOfByte b).filter (·.verdict == v) with
  | some c =>
    obtain ⟨-, hc⟩ := Option.filter_eq_some_iff.mp h
    exact ⟨c, rfl, beq_iff_eq.mp hc⟩
  | none =>
    cases v with
    | intact => exact absurd rfl hv
    | watch => exact ⟨.watchWarm, rfl, rfl⟩
    | unproven => exact ⟨.blind, rfl, rfl⟩
    | broken => exact ⟨.hardHigh, rfl, rfl⟩

/-- The evaluated cause agrees with the evaluated verdict (R98). -/
theorem evaluated_agrees (reached : List ReasonCause) (r : Record) :
    CauseAgrees { r with
      verdict := evaluatedVerdict reached, cause := evaluatedCause reached, carriedCause := none } := by
  have hhigh := highestReached_spec reached .intact
  unfold evaluatedCause evaluatedVerdict
  by_cases hne : highestReached .intact reached = .intact
  · rw [hne, firstCause_intact]
    exact ⟨rfl, rfl⟩
  · obtain ⟨c, hfound, -, hc, -⟩ := firstCause_spec (hhigh.reached_of_ne hne)
    rw [hfound]
    exact ⟨hc, rfl⟩

theorem judgeCarried_causeAgrees (v : Verdict) (b : Byte) (reached : List ReasonCause) (r : Record) :
    CauseAgrees (judgeCarried v (presentedCause v b) reached r) := by
  unfold judgeCarried
  split
  · rename_i hlt
    have hv : v ≠ .intact := by
      rintro rfl
      exact absurd hlt (Nat.not_lt_zero _)
    exact presentedCause_verdict hv b
  · exact evaluated_agrees reached r

/-! ### Figures in range (R87) -/

theorem satAdd_le (top a b : Nat) : satAdd top a b ≤ top := Nat.min_le_left _ _

theorem le_satAdd {top a : Nat} (h : a ≤ top) (b : Nat) : a ≤ satAdd top a b :=
  Nat.le_min.mpr ⟨h, Nat.le_add_right a b⟩

theorem doorExposures_le (openings : Half) (l : LiveFields) : doorExposures openings l ≤ 65535 := satAdd_le _ _ _

/-- The figures of a record, its judgement and its tag aside. -/
theorem FiguresRight.judged {r : Record} (h : FiguresRight r) (v : Verdict) (c : Cause) (o : Option ReasonCause) :
    FiguresRight { r with verdict := v, cause := c, carriedCause := o } := h

/-- The door exposures of a live record stand when its tag changes. -/
theorem retag_doors {r : Record} (h : FiguresRight r) (g : ScanTag) :
    (∀ l : LiveFields, (r.custody.retag g).live = some l → l.doorStored ≤ 65535)
      ∧ ∀ f : ClosedFields, r.custody.retag g = .closed f → f.doorFinal ≤ 65535 := by
  obtain ⟨-, -, -, -, -, hlive, hclosed⟩ := h
  unfold Record.live at hlive
  cases hc : r.custody with
  | aboard l =>
    rw [hc] at hlive
    refine ⟨?_, nofun⟩
    rintro _ ⟨⟩
    exact hlive l rfl
  | offered l d =>
    rw [hc] at hlive
    refine ⟨?_, nofun⟩
    rintro _ ⟨⟩
    exact hlive l rfl
  | closed f =>
    refine ⟨nofun, ?_⟩
    rintro _ ⟨⟩
    exact hclosed f hc

theorem freshRecord_figures (inp : StepInputs) (id : ConsignmentId) (cls : ClassNo) (c : CompNo) :
    FiguresRight (freshRecord inp id cls c) := by
  refine ⟨Nat.zero_le _, Nat.zero_le _, Nat.zero_le _, Nat.zero_le _, Nat.zero_le _, ?_, nofun⟩
  rintro l ⟨⟩
  exact Nat.zero_le _

theorem carriedRecord_figures (inp : StepInputs) (b : List Byte) (cls : ClassNo) (k : ClassLimits) (c : CompNo) :
    FiguresRight (carriedRecord inp b cls k c) := by
  obtain ⟨w, q, p, h⟩ := judgeCarried_judged (presentedVerdict (byteAt 2 b))
    (presentedCause (presentedVerdict (byteAt 2 b)) (byteAt 3 b)) (carriedTests k (carriedFigures inp b cls c))
    (carriedFigures inp b cls c)
  have hfigures : FiguresRight (carriedFigures inp b cls c) := by
    refine ⟨Nat.min_le_left _ _, Nat.min_le_left _ _, Nat.le_of_lt_succ (natAt_lt 50 4 b),
      Nat.le_of_lt_succ (natAt_lt 54 4 b), Nat.min_le_left _ _, ?_, nofun⟩
    rintro l ⟨⟩
    exact Nat.le_of_lt_succ (natAt_lt 62 2 b)
  have hr : carriedRecord inp b cls k c = _ := h
  rw [hr]
  exact hfigures.judged w q p

/-- The figures that stages 1 to 8 give lie in their ranges. -/
theorem chargeFigures_figures {r : Record} (h : FiguresRight r) (k : ClassLimits) (ceiling : Int) (n : Snapshot) :
    FiguresRight (r.chargeFigures k ceiling n).1 := by
  obtain ⟨hw, hc, he, hb, hl, hlive, hclosed⟩ := h
  unfold Record.chargeFigures
  split
  · exact ⟨hw, hc, he, satAdd_le _ _ _, hl, hlive, hclosed⟩
  · refine ⟨satAdd_le _ _ _, satAdd_le _ _ _, ?_, hb, hl, hlive, hclosed⟩
    unfold Record.expose
    dsimp only
    split
    · exact satAdd_le _ _ _
    · exact he

theorem charge_figures {r : Record} {l : LiveFields} (h : FiguresRight r) (hl : r.live = some l) (k : ClassLimits)
    (ceiling : Int) (n : Snapshot) (g : ScanTag) : FiguresRight (r.charge l k ceiling n g).1 := by
  rw [charge_eq hl]
  obtain ⟨v, c, o, hq⟩ := applyReached_judged (r.chargeFigures k ceiling n).2
    { (r.chargeFigures k ceiling n).1 with custody := r.custody.retag g }
  rw [hq]
  obtain ⟨h1, h2, h3, h4, h5, -, -⟩ := chargeFigures_figures h k ceiling n
  obtain ⟨h6, h7⟩ := retag_doors h g
  exact ⟨h1, h2, h3, h4, h5, h6, h7⟩

theorem chargeGap_figures {r : Record} {l : LiveFields} (h : FiguresRight r) (hl : r.live = some l) (k : ClassLimits)
    (amount : Nat) (g : ScanTag) : FiguresRight (r.chargeGap l k amount g).1 := by
  rw [chargeGap_eq hl]
  obtain ⟨v, c, o, hq⟩ := applyReached_judged (blindTest k (satAdd Config.maxSeconds r.blind amount))
    { r with blind := satAdd Config.maxSeconds r.blind amount, custody := r.custody.retag g }
  rw [hq]
  obtain ⟨h6, h7⟩ := retag_doors h g
  obtain ⟨h1, h2, h3, -, h5, -, -⟩ := h
  exact ⟨h1, h2, h3, satAdd_le _ _ _, h5, h6, h7⟩

theorem FiguresRight.shift {r : Record} (h : FiguresRight r) (d : BitVec 32) : FiguresRight (r.shift d) := by
  obtain ⟨h1, h2, h3, h4, h5, h6, h7⟩ := h
  unfold Record.shift
  split
  · exact ⟨h1, h2, h3, h4, h5, h6, h7⟩
  · rename_i l t hc
    refine ⟨h1, h2, h3, h4, h5, ?_, nofun⟩
    rintro _ ⟨⟩
    exact h6 l (by rw [Record.live, hc]; rfl)
  · exact ⟨h1, h2, h3, h4, h5, h6, h7⟩

theorem FiguresRight.stored {r : Record} {l : LiveFields} (h : FiguresRight r) (hl : r.live = some l) :
    l.doorStored ≤ 65535 := by
  obtain ⟨-, -, -, -, -, h6, -⟩ := h
  exact h6 l hl

/-- The figures of a record that a step writes. -/
theorem Written.figures {st : StepInProgress} {s : State} {i : SlotNo} {q : Record} (hs : RecordsRight s)
    (h : Written st s i (some q)) : FiguresRight q := by
  cases h with
  | admitted _ _ _ _ _ hr =>
    rcases hr with ⟨id, rfl⟩ | ⟨b, rfl⟩
    · exact freshRecord_figures _ _ _ _
    · exact carriedRecord_figures _ _ _ _ _
  | moved hr hl =>
    rw [moveTo_eq hl]
    obtain ⟨h1, h2, h3, h4, h5, -, -⟩ := hs _ _ hr
    refine ⟨h1, h2, h3, h4, h5, ?_, nofun⟩
    rintro _ ⟨⟩
    exact doorExposures_le _ _
  | offered hr hl =>
    have hstored := (hs _ _ hr).stored (by rw [Record.live, hl]; rfl)
    obtain ⟨h1, h2, h3, h4, h5, -, -⟩ := hs _ _ hr
    refine ⟨h1, h2, h3, h4, h5, ?_, nofun⟩
    rintro _ ⟨⟩
    exact hstored
  | offerEnded hr hl hlapses =>
    have hstored := (hs _ _ hr).stored (by rw [Record.live, hl]; rfl)
    obtain ⟨h1, h2, h3, h4, h5, -, -⟩ := hs _ _ hr
    refine ⟨h1, h2, h3, h4, ?_, ?_, nofun⟩
    · rcases hlapses with rfl | rfl
      · exact h5
      · exact satAdd_le _ _ _
    · rintro _ ⟨⟩
      exact hstored
  | closed hr hl hunit hk =>
    obtain ⟨h1, h2, h3, h4, h5, -, -⟩ := hs _ _ hr
    refine ⟨h1, h2, h3, h4, h5, nofun, ?_⟩
    rintro _ ⟨⟩
    exact doorExposures_le _ _
  | statementRead hr hf =>
    obtain ⟨h1, h2, h3, h4, h5, -, h7⟩ := hs _ _ hr
    refine ⟨h1, h2, h3, h4, h5, nofun, ?_⟩
    rintro _ ⟨⟩
    have hdoor := h7 _ hf
    exact hdoor
  | charged hg hr hl hk hn htag => exact charge_figures (hs _ _ hr) hl _ _ _ _
  | gapCharged hw hr hl hk => exact chargeGap_figures (hs _ _ hr) hl _ _ _

/-! ### Causes agree with verdicts (R93) -/

/-- The judgement is all that a cause's agreement asks. -/
theorem CauseAgrees.of_judgement {r q : Record} (h : CauseAgrees r) (hv : q.verdict = r.verdict)
    (hc : q.cause = r.cause) (ho : q.carriedCause = r.carriedCause) : CauseAgrees q := by
  unfold CauseAgrees
  rw [hv, hc, ho]
  exact h

theorem chargeFigures_judgement (r : Record) (k : ClassLimits) (ceiling : Int) (n : Snapshot) :
    (r.chargeFigures k ceiling n).1.verdict = r.verdict ∧ (r.chargeFigures k ceiling n).1.cause = r.cause
      ∧ (r.chargeFigures k ceiling n).1.carriedCause = r.carriedCause := by
  unfold Record.chargeFigures
  split <;> exact ⟨rfl, rfl, rfl⟩

theorem Written.causeAgrees {st : StepInProgress} {s : State} {i : SlotNo} {q : Record} (hs : JudgementsRight s)
    (h : Written st s i (some q)) : CauseAgrees q := by
  cases h with
  | admitted _ _ _ _ _ hr =>
    rcases hr with ⟨id, rfl⟩ | ⟨b, rfl⟩
    · exact ⟨rfl, rfl⟩
    · exact judgeCarried_causeAgrees _ _ _ _
  | moved hr hl =>
    rw [moveTo_eq hl]
    exact (hs _ _ hr).of_judgement rfl rfl rfl
  | offered hr hl => exact (hs _ _ hr).of_judgement rfl rfl rfl
  | offerEnded hr hl _ => exact (hs _ _ hr).of_judgement rfl rfl rfl
  | closed hr hl hunit hk => exact (hs _ _ hr).of_judgement rfl rfl rfl
  | statementRead hr hf => exact (hs _ _ hr).of_judgement rfl rfl rfl
  | charged hg hr hl hk hn htag =>
    rw [charge_eq hl]
    obtain ⟨hv, hc, ho⟩ := chargeFigures_judgement _ _ _ _
    exact applyReached_causeAgrees _ ((hs _ _ hr).of_judgement hv hc ho)
  | gapCharged hw hr hl hk =>
    rw [chargeGap_eq hl]
    exact applyReached_causeAgrees _ ((hs _ _ hr).of_judgement rfl rfl rfl)

theorem CauseAgrees.shift {r : Record} (h : CauseAgrees r) (d : BitVec 32) : CauseAgrees (r.shift d) := by
  rw [Record.shift_eq]
  exact h.of_judgement rfl rfl rfl

/-! ### Temperatures in range (Conventions) -/

theorem clampTemp_right (x : Int) : TempRight (clampTemp x) := by
  rw [clampTemp_eq]
  unfold TempRight Config.tempMin Config.tempMax
  split_ifs <;> omega

theorem OptTempRight.absent : OptTempRight none := nofun

theorem OptTempRight.some {t : Int} (h : TempRight t) : OptTempRight (some t) := by
  rintro _ ⟨⟩
  exact h

/-- A reading taken from probes whose readings are in range is in range. -/
theorem TakenFrom.right {s : State} {o : Option Int} (h : TakenFrom s o)
    (hs : ∀ n : ProbeNo, OptTempRight s.probes[n].reading) : OptTempRight o := by
  intro t ht
  rcases h t ht with ⟨n, hn⟩ | ⟨x, rfl⟩
  · exact hs n t hn
  · exact clampTemp_right x

/-- The source that a snapshot takes is in range when the readings and the last good one are. -/
theorem select_right {x : Compartment} {sim air : Option Int} (hx : OptTempRight x.lastGood) (hsim : OptTempRight sim) :
    OptTempRight (x.select sim air).1.temp ∧ OptTempRight (x.select sim air).2.1 := by
  unfold Compartment.select
  split
  · exact ⟨.some (hsim _ rfl), .some (hsim _ rfl)⟩
  · split
    · exact ⟨.some (clampTemp_right _), .some (clampTemp_right _)⟩
    · split
      · rename_i g hg
        split
        · exact ⟨.some (hx g hg), .some (hx g hg)⟩
        · exact ⟨.absent, .some (hx g hg)⟩
      · exact ⟨.absent, .absent⟩

theorem CompTempsRight.store {x : Compartment} (h : CompTempsRight x) (v : Settings) (now : RouteTime) (line : Bool)
    (period : Nat) : CompTempsRight (x.store v now line period) := by
  unfold Compartment.store
  split
  · unfold Compartment.restore
    dsimp only
    split <;> exact h
  · refine ⟨.absent, ?_⟩
    rintro n ⟨⟩
    exact .absent

theorem CompTempsRight.dark {x : Compartment} (h : CompTempsRight x) : CompTempsRight x.dark := ⟨h.1, nofun⟩

theorem CompChange.temps {s : State} {c : CompNo} {x : Compartment} (h : CompChange s c x)
    (hprobes : ∀ n : ProbeNo, OptTempRight s.probes[n].reading) (hs : CompTempsRight s.comps[c]) : CompTempsRight x := by
  cases h with
  | same | shifted | opened | shut | reported => exact hs
  | stored => exact hs.store _ _ _ _
  | switchedOff => exact ⟨.absent, nofun⟩
  | defrostStarted =>
    unfold Compartment.startDefrost
    split <;> exact hs
  | defrostEnded =>
    unfold Compartment.endDefrost
    split
    · exact hs
    · split <;> exact hs
    · exact hs
  | formed hactive hsim hair hspan =>
    obtain ⟨hreading, hgood⟩ := select_right hs.1 (air := _) (hsim.right hprobes)
    refine ⟨hgood, ?_⟩
    rintro n ⟨⟩
    exact hreading

theorem CompStarted.temps {s : State} {c : CompNo} {x : Compartment} (h : CompStarted s c x)
    (hs : CompTempsRight s.comps[c]) : CompTempsRight x := by
  cases h with
  | resumed =>
    unfold Compartment.resume
    dsimp only
    split
    · refine ⟨hs.1, ?_⟩
      rintro n ⟨⟩
      exact .absent
    · exact ⟨.absent, nofun⟩
  | initial => exact ⟨.absent, nofun⟩

/-- The peaks of a record. -/
def PeaksRight (r : Record) : Prop := OptTempRight r.peakHigh ∧ OptTempRight r.peakLow

theorem PeaksRight.of_peaks {r q : Record} (h : PeaksRight r) (hhigh : q.peakHigh = r.peakHigh)
    (hlow : q.peakLow = r.peakLow) : PeaksRight q := by
  unfold PeaksRight
  rw [hhigh, hlow]
  exact h

theorem presentedPeak_right (t : Int) : OptTempRight (presentedPeak t) := by
  unfold presentedPeak
  split
  · exact .absent
  · exact .some (clampTemp_right t)

theorem widen_peaks {r : Record} (h : PeaksRight r) {t : Int} (ht : TempRight t) : PeaksRight (r.widen t) := by
  obtain ⟨hhigh, hlow⟩ := h
  constructor
  · refine .some ?_
    cases hp : r.peakHigh with
    | none => exact ht
    | some p =>
      have hpr := hhigh p hp
      unfold TempRight at *
      simp only [Option.elim]
      omega
  · refine .some ?_
    cases hp : r.peakLow with
    | none => exact ht
    | some p =>
      have hpr := hlow p hp
      unfold TempRight at *
      simp only [Option.elim]
      omega

theorem chargeFigures_peaks {r : Record} (h : PeaksRight r) (k : ClassLimits) (ceiling : Int) {n : Snapshot}
    (hn : OptTempRight n.reading.temp) : PeaksRight (r.chargeFigures k ceiling n).1 := by
  unfold Record.chargeFigures
  split
  · exact h
  · rename_i t ht
    exact widen_peaks h (hn t ht)

theorem applyReached_peaks {r : Record} (h : PeaksRight r) (reached : List ReasonCause) :
    PeaksRight (applyReached reached r).1 := by
  obtain ⟨v, c, o, hq⟩ := applyReached_judged reached r
  rw [hq]
  exact h

theorem Written.peaks {st : StepInProgress} {s : State} {i : SlotNo} {q : Record} (hst : s.engine = some st)
    (hs : TempsRight s) (h : Written st s i (some q)) : PeaksRight q := by
  obtain ⟨-, -, hpeaks, hinputs⟩ := hs
  cases h with
  | admitted _ _ _ _ _ hr =>
    rcases hr with ⟨id, rfl⟩ | ⟨b, rfl⟩
    · exact ⟨.absent, .absent⟩
    · unfold carriedRecord
      dsimp only
      obtain ⟨w, q, p, h⟩ := judgeCarried_judged _ _ _ _
      rw [h]
      exact ⟨presentedPeak_right _, presentedPeak_right _⟩
  | moved hr hl =>
    rw [moveTo_eq hl]
    exact PeaksRight.of_peaks (hpeaks _ _ hr) rfl rfl
  | offered hr hl => exact PeaksRight.of_peaks (hpeaks _ _ hr) rfl rfl
  | offerEnded hr hl _ => exact PeaksRight.of_peaks (hpeaks _ _ hr) rfl rfl
  | closed hr hl hunit hk => exact PeaksRight.of_peaks (hpeaks _ _ hr) rfl rfl
  | statementRead hr hf => exact PeaksRight.of_peaks (hpeaks _ _ hr) rfl rfl
  | charged hg hr hl hk hn htag =>
    rw [charge_eq hl]
    obtain ⟨-, htemp⟩ := hinputs st hst (Record.comp _)
    have hfigures := chargeFigures_peaks (hpeaks _ _ hr)
    refine applyReached_peaks ?_ _
    exact PeaksRight.of_peaks (hfigures _ _ (htemp _ hn)) rfl rfl
  | gapCharged hw hr hl hk =>
    rw [chargeGap_eq hl]
    refine applyReached_peaks ?_ _
    exact PeaksRight.of_peaks (hpeaks _ _ hr) rfl rfl

theorem PeaksRight.shift {r : Record} (h : PeaksRight r) (d : BitVec 32) : PeaksRight (r.shift d) := by
  rw [Record.shift_eq]
  exact h

theorem Changed.temps {c : Instr} {s t : State} (h : Changed c s t) (hs : TempsRight s) : TempsRight t := by
  have hs' := hs
  obtain ⟨hprobes, hcomps, hpeaks, hinputs⟩ := hs
  have hcomps' : ∀ c : CompNo, CompTempsRight t.comps[c] := by
    intro c
    cases h.comps with
    | kept _ h => exact (h c).temps hprobes (hcomps c)
    | darkened _ h =>
      obtain ⟨y, hy | hy, h⟩ := h c
      · rw [h]
        exact (hy.temps hprobes (hcomps c)).dark
      · rw [h]
        exact (hy.temps (hcomps c)).dark
    | started h => exact (h c).temps (hcomps c)
  refine ⟨fun n => (h.reading n).right hprobes, hcomps', fun i r hr => ?_, fun st hst => ?_⟩
  · exact h.keepsRecords (P := PeaksRight) hpeaks (fun r d hr => hr.shift d) (fun st i q hst hw => hw.peaks hst hs') i r hr
  · cases h.engine with
    | same he => exact hinputs st (he ▸ hst)
    | none he => rw [he] at hst; cases hst
    | discarded st' hst' he =>
      rw [he] at hst
      cases hst
      exact hinputs st' hst'
    | begun w he =>
      rw [he] at hst
      cases hst
      exact hcomps'

/-- Settles O56, by what each write makes of a record's figures, judgement and peaks, and by what one command makes of a
compartment, a probe's reading and the step in progress. -/
theorem everyStepKeepsTheRecordsRight : Obligations.EveryStepKeepsTheRecordsRight := by
  intro s t hr hj ht hstep
  refine step_keeps (P := fun s => RecordsRight s ∧ JudgementsRight s ∧ TempsRight s) (fun _ _ h => h)
    (fun c s t hs h => ?_) ⟨hr, hj, ht⟩ hstep
  obtain ⟨hr, hj, ht⟩ := hs
  refine ⟨?_, ?_, h.temps ht⟩
  · exact h.keepsRecords (P := FiguresRight) hr (fun r d hr => hr.shift d) fun st i q _ hw => hw.figures hr
  · exact h.keepsRecords (P := CauseAgrees) hj (fun r d hr => hr.shift d) fun st i q _ hw => hw.causeAgrees hj

/-! ### What never falls (R4, R87, R92) -/

theorem NotFallen.refl (r : Record) : NotFallen r r := ⟨le_rfl, le_rfl, le_rfl, le_rfl, le_rfl⟩

theorem chargeFigures_notFallen {r : Record} (h : FiguresRight r) (k : ClassLimits) (ceiling : Int) (n : Snapshot) :
    NotFallen r (r.chargeFigures k ceiling n).1 := by
  obtain ⟨hw, hc, he, hb, -⟩ := h
  unfold Record.chargeFigures
  split
  · exact ⟨le_rfl, le_rfl, le_rfl, le_satAdd hb _, le_rfl⟩
  · refine ⟨le_satAdd hw _, le_satAdd hc _, ?_, le_rfl, le_rfl⟩
    unfold Record.expose
    dsimp only
    split
    · exact le_satAdd he _
    · exact le_rfl

theorem applyReached_notFallen {r q : Record} (h : NotFallen r q) (reached : List ReasonCause) :
    NotFallen r (applyReached reached q).1 := by
  have hrank := applyReached_rank reached q
  obtain ⟨v, c, o, hq⟩ := applyReached_judged reached q
  rw [hq] at hrank ⊢
  obtain ⟨h1, h2, h3, h4, h5⟩ := h
  exact ⟨h1, h2, h3, h4, h5.trans hrank⟩

/-- What stays the same and what never falls between two records of one slot. -/
def Kept (r q : Record) : Prop := q.id = r.id ∧ q.cls = r.cls ∧ q.admittedAt = r.admittedAt ∧ NotFallen r q

theorem Written.kept {st : StepInProgress} {s : State} {i : SlotNo} {r q : Record} (hs : RecordsRight s)
    (hr : s.slots[i] = some r) (h : Written st s i (some q)) : Kept r q := by
  have hsame : ∀ {r' : Record}, s.slots[i] = some r' → r' = r := fun h => Option.some.inj (h.symm.trans hr)
  cases h with
  | admitted hfree _ _ _ _ _ => rw [hfree] at hr; cases hr
  | moved hr' hl =>
    obtain rfl := hsame hr'
    rw [moveTo_eq hl]
    exact ⟨rfl, rfl, rfl, NotFallen.refl _⟩
  | offered hr' hl =>
    obtain rfl := hsame hr'
    exact ⟨rfl, rfl, rfl, NotFallen.refl _⟩
  | offerEnded hr' hl _ =>
    obtain rfl := hsame hr'
    exact ⟨rfl, rfl, rfl, NotFallen.refl _⟩
  | closed hr' hl hunit hk =>
    obtain rfl := hsame hr'
    exact ⟨rfl, rfl, rfl, NotFallen.refl _⟩
  | statementRead hr' hf =>
    obtain rfl := hsame hr'
    exact ⟨rfl, rfl, rfl, NotFallen.refl _⟩
  | charged hg hr' hl hk hn htag =>
    obtain rfl := hsame hr'
    have hcharged := charge_charged hl
    refine ⟨(hcharged _ _ _ _).id, (hcharged _ _ _ _).cls, (hcharged _ _ _ _).admittedAt, ?_⟩
    rw [charge_eq hl]
    refine applyReached_notFallen ?_ _
    exact chargeFigures_notFallen (hs _ _ hr') _ _ _
  | gapCharged hw hr' hl hk =>
    obtain rfl := hsame hr'
    have hcharged := chargeGap_charged hl
    refine ⟨(hcharged _ _ _).id, (hcharged _ _ _).cls, (hcharged _ _ _).admittedAt, ?_⟩
    rw [chargeGap_eq hl]
    obtain ⟨-, -, -, hb, -⟩ := hs _ _ hr'
    refine applyReached_notFallen ?_ _
    exact ⟨le_rfl, le_rfl, le_rfl, le_satAdd hb _, le_rfl⟩

theorem shift_kept (r : Record) (d : BitVec 32) : Kept r (r.shift d) := by
  rw [Record.shift_eq]
  exact ⟨rfl, rfl, rfl, NotFallen.refl _⟩

/-- What a CLOSED record's slot holds after a write: nothing, or the record with its statement read mark set. -/
theorem Written.closed_frozen {st : StepInProgress} {s : State} {i : SlotNo} {r : Record} {f : ClosedFields}
    {x : Option Record} (hr : s.slots[i] = some r) (hf : r.custody = .closed f) (h : Written st s i x) :
    x = none ∨ x = some { r with custody := .closed { f with statementRead := true } } := by
  have hsame : ∀ {r' : Record}, s.slots[i] = some r' → r' = r := fun h => Option.some.inj (h.symm.trans hr)
  have hnot : ∀ {l : LiveFields}, r.live ≠ some l := fun h => by rw [Record.live, hf] at h; cases h
  cases h with
  | admitted hfree _ _ _ _ _ => rw [hfree] at hr; cases hr
  | freed _ => exact .inl rfl
  | moved hr' hl | offered hr' hl | offerEnded hr' hl _ | closed hr' hl _ _ =>
    obtain rfl := hsame hr'
    rw [hf] at hl
    cases hl
  | statementRead hr' hf' =>
    obtain rfl := hsame hr'
    rw [hf] at hf'
    cases hf'
    exact .inr rfl
  | charged hg hr' hl hk hn htag =>
    obtain rfl := hsame hr'
    exact absurd hl hnot
  | gapCharged hw hr' hl hk =>
    obtain rfl := hsame hr'
    exact absurd hl hnot

/-- Settles O59: a slot that keeps a record is as it was, or written by the step in progress, or its deadline shifted. -/
theorem nothingFallsAndClosedRecordsAreFrozen : Obligations.NothingFallsAndClosedRecordsAreFrozen := by
  intro i r s t hs hr hstep
  unfold step at hstep
  split at hstep
  case h_2 =>
    cases hstep
    refine ⟨fun q hq => ?_, fun f hf => .inr (.inl hr)⟩
    obtain rfl : q = r := Option.some.inj (hq.symm.trans hr)
    exact ⟨rfl, rfl, rfl, NotFallen.refl q⟩
  case h_1 c rest _ =>
    have hr' : (s.withPending rest).slots[i] = some r := hr
    rcases (exec_changed hstep).slotsChanged.get i with hi | ⟨st, hst, hi⟩ | ⟨r', d, hr'', hi⟩ | hi
    · rw [hr'] at hi
      refine ⟨fun q hq => ?_, fun f hf => .inr (.inl hi)⟩
      obtain rfl : q = r := Option.some.inj (hq.symm.trans hi)
      exact ⟨rfl, rfl, rfl, NotFallen.refl q⟩
    · refine ⟨fun q hq => Written.kept (s := s.withPending rest) hs hr' (hq ▸ hi), fun f hf => ?_⟩
      exact (hi.closed_frozen hr' hf).imp_right .inr
    · obtain rfl : r' = r := Option.some.inj (hr''.symm.trans hr')
      refine ⟨fun q hq => ?_, fun f hf => .inr (.inl ?_)⟩
      · obtain rfl : r'.shift d = q := Option.some.inj (hi.symm.trans hq)
        exact shift_kept r' d
      · rw [hi]
        unfold Record.shift
        rw [hf]
    · exact ⟨fun q hq => (by rw [hi] at hq; cases hq), fun f hf => .inl hi⟩

end Sys2Proof.Machine
end

section
/-!
PROOFS. What one command can do to the ports' phases, the step in progress and the MOVE ALL in flight (R12, R120, R171 to
R177).
-/
namespace Sys2Proof.Machine

/-! ### The cases of one command -/

/-- A phase in which no step works for the port and no MOVE ALL is in flight. -/
def PortPhase.settled (ph : PortPhase) : Prop := ph.inFlight ≠ some .moveAll ∧ ∀ cmd : PortCommand, ph ≠ .working cmd

/-- A SET COMPARTMENT with mode OFF carries mode OFF. -/
def PortCommand.offRight (cmd : PortCommand) : Prop :=
  ∀ (c : CompNo) (v : Settings), cmd = .setCompartmentOff c v → CarriesOff v

/-- What one command makes of the ports, the step in progress, the order and the move-all record, by what it does to the
phases. -/
inductive Phased (s : State) : State → Prop
  /-- no phase -/
  | quiet {t : State} (h : Quiet s t) : Phased s t
  /-- READ RESULT's read -/
  | resultRead {p : PortId} {code : Byte} {n : Nat} {reply : List Byte} :
      Phased s (s.open p code (.result (s.port p).phase.found n) reply)
  /-- CANCEL's read that holds a walk -/
  | cancelRead {p : PortId} (hmark : s.cancelMark p = true) :
      Phased s (State.open { s with moveAll := s.moveAll.map MoveAllRecord.heldByCancel } p rowCancel.code (.cancel true)
        (cancelBytes true))
  /-- a phase without a step or a MOVE ALL replaced by another such -/
  | moved {u : State} {p : PortId} {ph : PortPhase} (hq : Quiet s u)
      (hframe : (u.port p).frame = none ∨ ∃ r : Result, ph = .result r)
      (hold : PortsRight s → (s.port p).phase.settled) (hnew : ph.settled)
      (hoff : ∀ cmd : PortCommand, ph.inFlight = some cmd → cmd.offRight) : Phased s (u.setPhase p ph)
  /-- a MOVE ALL accepted -/
  | walkStarted {u : State} {a b : Byte} (hq : Quiet s u) (hpower : s.power = .present)
      (hframe : (u.port .unit).frame = none) (hold : (s.port .unit).phase.settled) : Phased s (u.startWalk .unit a b)
  /-- CANCEL's close -/
  | cancelled {u : State} (hq : Quiet s u) : Phased s u.cancelWalk
  /-- CANCEL's refused close -/
  | released {u : State} (hq : Quiet s u) : Phased s u.releaseWalk
  /-- PORT RESET -/
  | reset {u : State} {p : PortId} (hq : Quiet s u) (hframe : (u.port p).frame = none) : Phased s (u.resetPort p)
  /-- a port's step granted -/
  | granted {p : PortId} {cmd : PortCommand} (hg : s.mayGrant (requesterOf p) = true)
      (hph : (s.port p).phase = .waiting cmd) (hcmd : cmd ≠ .moveAll) :
      Phased s ((s.grant (requesterOf p) (.port p cmd)).setPhase p (.working cmd))
  /-- a MOVE ALL slot step granted -/
  | slotGranted {a b : Byte} {i : SlotNo} (hg : s.mayGrant .unitPort = true)
      (hph : (s.port .unit).phase = .waiting .moveAll) :
      Phased s ((s.grant .unitPort (.moveAllSlot a b i)).setPhase .unit (.working .moveAll))
  /-- a step of no port granted -/
  | ownGranted {r : Requester} {w : StepWork} (hg : s.mayGrant r = true) (hw : w.forPort = none) : Phased s (s.grant r w)
  /-- a step of no port, or one whose result is discarded, ended -/
  | freed {st : StepInProgress} {u t : State} (hst : s.engine = some st) (hq : Quiet s u) (hq' : Quiet u.freeEngine t)
      (hw : st.discarded = true ∨ st.work.forPort = none) : Phased s t
  /-- a port's step ended with its result -/
  | placed {st : StepInProgress} {p : PortId} {cmd : PortCommand} {u : State} {r : Result} (hst : s.engine = some st)
      (hd : st.discarded = false) (hw : st.work = .port p cmd) (hq : Quiet s u) : Phased s (u.freeEngine.place p r)
  /-- a slot step of the walk in flight ended -/
  | slotEnded {st : StepInProgress} {m : MoveAllRecord} {u : State} {a b : Byte} {i : SlotNo} {n : Nat}
      {e : Option Result} (hst : s.engine = some st) (hd : st.discarded = false) (hw : st.work = .moveAllSlot a b i)
      (hm : s.moveAll = some m) (hq : Quiet s u) : Phased s (u.freeEngine.settleWalk { m with count := n } i e)
  /-- a slot step of no walk ended -/
  | slotLost {st : StepInProgress} {u : State} {a b : Byte} {i : SlotNo} (hst : s.engine = some st)
      (hd : st.discarded = false) (hw : st.work = .moveAllSlot a b i) (hm : s.moveAll = none) (hq : Quiet s u) :
      Phased s u.freeEngine
  /-- main power lost or returned -/
  | restarted {t : State} (hphase : ∀ p : PortId, (t.port p).phase = .idle) (hframe : ∀ p : PortId, (t.port p).frame = none)
      (hm : PortsRight s → t.moveAll = none) (horder : t.order.Perm initialOrder)
      (he : ∀ st : StepInProgress, t.engine = some st → st.work.forPort = none ∧ t.power = .present) : Phased s t

/-! ### Quiet changes -/

theorem Quiet.setOutside {s : State} {C : Vector Compartment 4} {sc : Scanner} {pr : Vector Probe 8}
    {ex : ExposureEngine} {time : RouteTime} {lh lw : Bool} :
    Quiet s { s with
      comps := C, scanner := sc, probes := pr, exposure := ex, lastSnapshotTime := time, lapseHeld := lh,
      lapseWaiting := lw } := .of_eq rfl rfl rfl rfl rfl rfl

theorem Quiet.formIfPolled (s : State) : Quiet s s.formIfPolled := by
  unfold State.formIfPolled
  split
  · exact Quiet.setOutside.trans (Quiet.raise _ _)
  · exact Quiet.refl s

theorem Quiet.startScan (s : State) : Quiet s s.startScan := Quiet.setOutside.trans (formIfPolled _)

theorem Quiet.passEnded (s : State) : Quiet s s.passEnded := by
  unfold State.passEnded
  split
  · exact Quiet.setOutside.trans (startScan _)
  · exact Quiet.setOutside

theorem Quiet.accrualAdvance (s : State) : Quiet s s.accrualAdvance := by
  unfold State.accrualAdvance
  split
  · exact Quiet.setOutside
  · exact Quiet.setOutside.trans (passEnded _)

theorem Quiet.gapAdvance (s : State) : Quiet s s.gapAdvance := by
  unfold State.gapAdvance
  split <;> exact Quiet.setOutside

theorem Quiet.endPoll (s : State) (n : ProbeNo) (rest : List ProbeNo) (o : PollOutcome) :
    Quiet s (s.endPoll n rest o) := by
  have h : Quiet s (s.recordOutcome n o) := by
    unfold State.recordOutcome
    split
    · exact Quiet.setOutside.trans (Quiet.raise _ _)
    · exact Quiet.refl s
  exact (h.trans Quiet.setOutside).trans (formIfPolled _)

theorem Worked.quiet {st : StepInProgress} {s u : State} (h : Worked st s u) : Quiet s u := by
  cases h with
  | admitted hfree hid hzero hk hc hr =>
    rw [takeAboard_eq]
    refine Quiet.trans ?_ (Quiet.raise _ _)
    exact .of_eq rfl rfl rfl rfl rfl rfl
  | _ => exact .of_eq rfl rfl rfl rfl rfl rfl

theorem WorkedOuter.quiet {st : StepInProgress} {s t : State} (h : WorkedOuter st s t) : Quiet s t := by
  obtain ⟨u, hu, -, hq⟩ := h
  exact hu.quiet.trans hq

/-! ### Closes -/

theorem endFrame_frame (s : State) (p : PortId) : ((s.endFrame p).port p).frame = none := by
  rw [State.endFrame, State.setPort_port]

/-- A close: nothing, a refusal, or what the command does on the state with its frame closed. -/
theorem closeFrame_phased {s : State} {acc : State → State} {row : CommandRow} {p : PortId} {count : Nat} {forced : Bool}
    (h : s.power = .present → row.permits p = true → (row.queued = true → (s.port p).phase.inFlight = none) →
      Phased s (acc (s.endFrame p))) :
    Phased s (closeFrame row p count forced id acc s) := by
  rcases closeFrame_cases row p count forced id acc s with ⟨-, he⟩ | ⟨r, -, -, he⟩ | ⟨hopen, htest, he⟩ <;> rw [he]
  · exact .quiet (Quiet.refl s)
  · exact .quiet ((Quiet.endFrame _ _).trans (Quiet.recordRefusal _ _ _ _ _))
  · obtain ⟨-, hpermits, -, hfree⟩ := (frameTest_none _ _ _ _ _).mp htest
    obtain ⟨fr, hfr, -⟩ := Option.map_eq_some_iff.mp hopen
    exact h (State.openFrame_some.mp hfr).1 hpermits fun hqueued => (free_iff _).mp (hfree hqueued)

theorem settled_of_free {ph : PortPhase} (h : ph.inFlight = none) : ph.settled := by
  refine ⟨by simp [h], ?_⟩
  rintro cmd rfl
  cases h

/-- A queued command that its close sets waiting. -/
theorem Phased.waits {s : State} {p : PortId} {cmd : PortCommand} (hfree : (s.port p).phase.inFlight = none)
    (hcmd : cmd ≠ .moveAll) (hoff : cmd.offRight) : Phased s (acceptWaiting p cmd (s.endFrame p)) := by
  refine .moved (Quiet.endFrame s p) (.inl (endFrame_frame s p)) (fun _ => settled_of_free hfree) ⟨?_, nofun⟩ ?_
  · rintro ⟨⟩
    exact hcmd rfl
  · rintro _ ⟨⟩
    exact hoff

/-- A queued command that its close answers at once. -/
theorem Phased.answered {s u : State} {p : PortId} (hq : Quiet (s.endFrame p) u)
    (hfree : (s.port p).phase.inFlight = none) (r : Result) : Phased s (u.place p r) :=
  .moved ((Quiet.endFrame s p).trans hq) (.inr ⟨r, rfl⟩) (fun _ => settled_of_free hfree) ⟨nofun, nofun⟩ nofun

theorem closeQueued_waits {s : State} (row : CommandRow) (p : PortId) (count : Nat) (forced : Bool) {cmd : PortCommand}
    (hqueued : row.queued = true) (hcmd : cmd ≠ .moveAll) (hoff : cmd.offRight) :
    Phased s (closeFrame row p count forced id (acceptWaiting p cmd) s) :=
  closeFrame_phased fun _ _ hfree => .waits (hfree hqueued) hcmd hoff

theorem closeQueued_answers {s : State} (row : CommandRow) (p : PortId) (count : Nat) (forced : Bool)
    (hqueued : row.queued = true) (r : State → Result) :
    Phased s (closeFrame row p count forced id (fun u => u.place p (r u)) s) :=
  closeFrame_phased fun _ _ hfree => .answered (Quiet.refl _) (hfree hqueued) _

/-! ### Steps -/

theorem beginPortStep_phased (p : PortId) {kind : PortCommand → Bool} (hkind : kind .moveAll = false) (s : State) :
    Phased s (beginPortStep p kind s) := by
  unfold beginPortStep
  split
  · rename_i cmd hph
    split
    · rename_i h
      rw [Bool.and_eq_true] at h
      refine .granted h.2 hph ?_
      rintro rfl
      rw [hkind] at h
      cases h.1
    · exact .quiet (Quiet.refl s)
  · exact .quiet (Quiet.refl s)

theorem Quiet.freeEngine {s t : State} (h : Quiet s t) : Quiet s.freeEngine t.freeEngine where
  power := h.power
  engine := rfl
  order := h.order
  moveAll := h.moveAll
  phase p := by
    cases p
    · exact h.phase .unit
    · exact h.phase .dock
  frame p := by
    cases p
    · exact h.frame .unit
    · exact h.frame .dock

theorem finish_phased {s : State} {st : StepInProgress} (hst : s.engine = some st) : Phased s (s.finish st) := by
  cases hw : st.work with
  | port p cmd =>
    have hq := (portWork_worked (s := s) hw).quiet
    simp only [State.finish, hw, State.finishPort]
    cases hd : st.discarded with
    | true =>
      refine .freed hst hq ?_ (.inl hd)
      rw [if_pos rfl]
      split
      · exact Quiet.clearWalk _ _
      · exact Quiet.refl _
    | false => exact .placed hst hd hw hq
  | moveAllSlot a b i =>
    have hq := (moveAllSlotWork_worked (st := st) (s := s) a b i).quiet
    simp only [State.finish, hw, State.finishMoveAll]
    cases hd : st.discarded with
    | true => exact .freed hst hq (Quiet.refl _) (.inl hd)
    | false =>
      cases hm : s.moveAll with
      | none => exact .slotLost hst hd hw hm hq
      | some m => exact .slotEnded hst hd hw hm hq
  | accrual =>
    simp only [State.finish, hw]
    exact .freed hst (accrualWork_worked (s := s) hw).quiet (Quiet.accrualAdvance _) (.inr (by rw [hw]; rfl))
  | gap =>
    simp only [State.finish, hw]
    exact .freed hst (gapWork_worked (s := s) hw).quiet (Quiet.gapAdvance _) (.inr (by rw [hw]; rfl))
  | lapse =>
    simp only [State.finish, hw]
    exact .freed hst (lapseWork_worked (st := st) (s := s)).quiet (Quiet.refl _) (.inr (by rw [hw]; rfl))

theorem endStep_phased (kind : StepWork → Bool) (s : State) : Phased s (endStep kind s) := by
  unfold endStep
  split
  · rename_i st hst
    split
    · exact finish_phased hst
    · exact .quiet (Quiet.refl s)
  · exact .quiet (Quiet.refl s)

theorem portStep_phased (p : PortId) {kind : PortCommand → Bool} (hkind : kind .moveAll = false) (ph : StepPhase)
    (s : State) : Phased s (portStep p kind ph s) := by
  cases ph
  · exact beginPortStep_phased p hkind s
  · exact endStep_phased _ s

theorem requesterStep_phased (r : Requester) {w : StepWork} (hw : w.forPort = none) (ph : StepPhase) (s : State) :
    Phased s (requesterStep r w ph s) := by
  cases ph
  · simp only [requesterStep]
    split
    · rename_i h
      exact .ownGranted h hw
    · exact .quiet (Quiet.refl s)
  · exact endStep_phased (fun v => v == w) s

theorem beginMoveAllSlot_phased (s : State) : Phased s (beginMoveAllSlot s) := by
  unfold beginMoveAllSlot
  split
  · rename_i m hph _
    split
    · rename_i h
      exact .slotGranted h hph
    · exact .quiet (Quiet.refl s)
  · exact .quiet (Quiet.refl s)

theorem exec_step_phased {c : Instr} {s t : State} (hc : stepsTable c = true) (h : exec c s = .next t) :
    Phased s t := by
  cases c <;> first
    | (cases hc; done)
    | (cases h; exact portStep_phased _ rfl _ _)
    | (cases h; exact requesterStep_phased _ rfl _ _)
    | skip
  case moveAllSlot ph =>
    cases ph <;> cases h
    · exact beginMoveAllSlot_phased s
    · exact endStep_phased _ s

/-! ### Frames -/

theorem found_not_waiting {ph : PortPhase} {n : Nat} : Capture.plain (.result ph.found n) ∨ ∃ r, ph = .result r := by
  cases ph with
  | result r => exact .inr ⟨r, rfl⟩
  | idle | waiting _ | working _ => exact .inl ⟨nofun, nofun⟩

theorem readFrame_phased (s : State) (p : PortId) (code : Byte) : Phased s (s.readFrame p code) := by
  have hplain : Capture.plain .nothing := ⟨nofun, nofun⟩
  unfold State.readFrame
  split_ifs
  · exact .quiet (Quiet.opened s p code _ hplain)
  · exact .quiet (Quiet.opened s p code _ ⟨nofun, nofun⟩)
  · exact .resultRead
  · unfold State.readCancel
    split
    · rename_i hmark
      exact .cancelRead hmark
    · exact .quiet (Quiet.opened s p _ _ ⟨nofun, nofun⟩)
  · exact .quiet (Quiet.opened s p code _ hplain)
  · exact .quiet (Quiet.opened s p code _ hplain)

/-- The close of a frame that no phase sees. -/
theorem closeFrame_quiet {s : State} {ref acc : State → State} (row : CommandRow) (p : PortId) (count : Nat)
    (forced : Bool) (href : ∀ u : State, Quiet u (ref u)) (hacc : ∀ u : State, Quiet u (acc u)) :
    Phased s (closeFrame row p count forced ref acc s) := by
  refine .quiet ?_
  rcases closeFrame_cases row p count forced ref acc s with ⟨-, he⟩ | ⟨r, -, -, he⟩ | ⟨-, -, he⟩ <;> rw [he]
  · exact Quiet.refl s
  · exact ((Quiet.endFrame _ _).trans (Quiet.recordRefusal _ _ _ _ _)).trans (href _)
  · exact (Quiet.endFrame _ _).trans (hacc _)

theorem capture_frame {s : State} {p : PortId} {x : Capture} (h : s.capture p = some x) :
    ∃ fr : OpenFrame, (s.port p).frame = some fr ∧ fr.capture = x := by
  obtain ⟨fr, hfr, hx⟩ := Option.map_eq_some_iff.mp h
  exact ⟨fr, (State.openFrame_some.mp hfr).2, hx⟩

theorem readResult_phased (s : State) (p : PortId) (count : Nat) {found : FoundResult} {n : Nat}
    (hcapture : s.capture p = some (.result found n)) :
    Phased s (closeFrame (rowReadResultOf n) p count false id (fun u => u.takeResult p found) s) := by
  cases found with
  | empty =>
    refine closeFrame_quiet _ _ _ _ (fun u => Quiet.refl u) fun u => ?_
    have hraise := Quiet.raise u emptyReadFlag
    refine Quiet.setPort rfl ?_
    cases hf : (u.port p).frame with
    | none => exact .inr (by simp [Port.raise, hf])
    | some fr =>
      by_cases hpoll : ∃ a b, fr.capture = .poll a b
      · refine .inr ?_
        obtain ⟨a, b, hp⟩ := hpoll
        intro fr' hfr'
        simp only [Port.raise, hf, hp, Option.map_some, Option.some.injEq] at hfr'
        subst hfr'
        exact ⟨nofun, nofun⟩
      · refine .inl ?_
        simp only [Port.raise, hf, Option.map_some, Option.some.injEq]
        split
        · rename_i a b hp
          exact absurd ⟨a, b, hp⟩ hpoll
        · rfl
  | notReady => exact closeFrame_quiet _ _ _ _ (fun u => Quiet.refl u) fun u => Quiet.refl u
  | waiting =>
    refine closeFrame_phased fun _ _ _ => ?_
    refine .moved (Quiet.endFrame s p) (.inl (endFrame_frame s p)) (fun h => ?_) ⟨nofun, nofun⟩ nofun
    obtain ⟨fr, hfr, hc⟩ := capture_frame hcapture
    obtain ⟨-, -, -, hresult, -⟩ := h
    obtain ⟨r, hr⟩ := hresult p fr n hfr hc
    rw [hr]
    exact ⟨nofun, nofun⟩

/-- The read and the direct commands. -/
theorem exec_direct_phased {c : Instr} {s t : State} (hq : queuedFrame c = none) {p : PortId} (hp : framePort c = some p)
    (h : exec c s = .next t) : Phased s t := by
  have hid : ∀ u : State, Quiet u (id u) := Quiet.refl
  have hset : ∀ (u : State) (p : PortId) (x : Port), x.phase = (u.port p).phase → x.frame = (u.port p).frame →
      Quiet u (u.setPort p x) := fun u p x hx hf => Quiet.setPort hx (.inl hf)
  cases c <;> first
    | (cases hq; done)
    | (cases hp; done)
    | skip
  case frameRead p code =>
    cases h
    split
    · exact readFrame_phased _ _ _
    · exact .quiet (Quiet.refl s)
  case unknownCommandFrame p n =>
    cases h
    refine .quiet ?_
    split
    · split
      · exact Quiet.refl s
      · exact (Quiet.endFrame _ _).trans (Quiet.recordRefusal _ _ _ _ _)
    · exact Quiet.refl s
  case readPortStatus p n =>
    cases h
    exact closeFrame_quiet _ _ _ _ hid fun u => hset u p _ rfl rfl
  case pollFlags p n =>
    cases h
    split
    · exact closeFrame_quiet _ _ _ _ hid fun u => hset u p _ rfl rfl
    · exact .quiet (Quiet.refl s)
  case setFlagMask p b =>
    cases h
    exact closeFrame_quiet _ _ _ _ (fun u => hset u p _ rfl rfl) fun u => hset u p _ rfl rfl
  case readResult p n =>
    cases h
    split
    · rename_i hcapture
      exact readResult_phased s p n hcapture
    · exact .quiet (Quiet.refl s)
  case cancel p n =>
    cases h
    split
    · rcases closeFrame_cases rowCancel p n false State.releaseWalk State.cancelWalk s with
        ⟨-, he⟩ | ⟨r, -, -, he⟩ | ⟨-, -, he⟩ <;> rw [he]
      · exact .quiet (Quiet.refl s)
      · exact .released ((Quiet.endFrame _ _).trans (Quiet.recordRefusal _ _ _ _ _))
      · exact .cancelled (Quiet.endFrame _ _)
    · exact closeFrame_quiet _ _ _ _ hid hid
    · exact .quiet (Quiet.refl s)
  case portReset p n =>
    cases h
    exact closeFrame_phased fun _ _ _ => .reset (Quiet.endFrame s p) (endFrame_frame s p)

/-! ### Queued commands -/

theorem offRight_of_ne {cmd : PortCommand} (h : ∀ (c : CompNo) (v : Settings), cmd ≠ .setCompartmentOff c v) :
    cmd.offRight := fun c v hc => absurd hc (h c v)

/-- The settings that a SET COMPARTMENT with mode OFF waits with carry mode OFF. -/
theorem settingsField_offRight {c : CompNo} {bytes : List Byte} (h : (settingsField bytes).active = false) :
    (PortCommand.setCompartmentOff c (settingsField bytes)).offRight := by
  rintro k v ⟨⟩
  exact ⟨h, Nat.le_of_lt_succ (natAt_lt 9 1 bytes), Nat.le_of_lt_succ (natAt_lt 10 1 bytes)⟩

theorem setCompartment_phased (p : PortId) (bytes : List Byte) (s t : State)
    (h : execSetCompartment p bytes s = .next t) : Phased s t := by
  cases h
  refine closeFrame_phased fun _ _ hfree => ?_
  split
  · exact .answered (Quiet.refl _) (hfree rfl) _
  · split
    · refine .answered ?_ (hfree rfl) _
      exact .of_eq rfl rfl rfl rfl rfl rfl
    · rename_i hactive
      exact .waits (hfree rfl) nofun (settingsField_offRight (by simpa using hactive))

theorem defrostCommand_phased {s : State} {row : CommandRow} {f : Compartment → Compartment} (p : PortId) (b : Byte)
    (n : Nat) (forced : Bool) (hqueued : row.queued = true) :
    Phased s (closeFrame row p n forced id (defrostCommand row p b f) s) := by
  refine closeFrame_phased fun _ _ hfree => ?_
  unfold defrostCommand
  split
  · refine .answered ?_ (hfree hqueued) _
    exact .of_eq rfl rfl rfl rfl rfl rfl
  · exact .answered (Quiet.refl _) (hfree hqueued) _

theorem setClock_phased (p : PortId) (bytes : List Byte) (s t : State) (h : execSetClock p bytes s = .next t) :
    Phased s t := by
  cases h
  refine closeFrame_phased fun _ _ hfree => ?_
  split
  · refine .answered (u := (s.endFrame p).shiftClock _) ?_ (hfree rfl) _
    exact .of_eq rfl rfl rfl rfl rfl rfl
  · exact .waits (hfree rfl) nofun (offRight_of_ne nofun)

theorem exec_queued_phased {c : Instr} {f : QueuedFrame} {s t : State} (hq : queuedFrame c = some f)
    (h : exec c s = .next t) : Phased s t := by
  cases c <;> first
    | (cases hq; done)
    | (cases h; exact closeQueued_waits _ _ _ _ rfl nofun (offRight_of_ne nofun))
    | (cases h; exact closeQueued_answers _ _ _ _ rfl _)
    | skip
  case moveAll p b =>
    cases h
    refine closeFrame_phased fun hpower hpermits hfree => ?_
    cases p with
    | dock => cases hpermits
    | unit => exact .walkStarted (Quiet.endFrame s .unit) hpower (endFrame_frame s .unit) (settled_of_free (hfree rfl))
  case setOfferTimeout p b =>
    cases h
    refine closeFrame_phased fun _ _ hfree => .answered ?_ (hfree rfl) _
    exact .of_eq rfl rfl rfl rfl rfl rfl
  case setCompartment p b => exact setCompartment_phased _ _ _ _ h
  case readCompartment p b =>
    cases h
    refine closeFrame_phased fun _ _ hfree => ?_
    split <;> exact .answered (Quiet.refl _) (hfree rfl) _
  case defrostStart p b =>
    cases h
    exact defrostCommand_phased _ _ _ _ rfl
  case defrostEnd p b =>
    cases h
    exact defrostCommand_phased _ _ _ _ rfl
  case setScanPeriod p b =>
    cases h
    refine closeFrame_phased fun _ _ hfree => .answered ?_ (hfree rfl) _
    exact .of_eq rfl rfl rfl rfl rfl rfl
  case setClock p b => exact setClock_phased _ _ _ _ h

/-! ### Main power -/

theorem powerDown_phased (s u : State) : Phased s u.powerDown :=
  .restarted (by rintro (_ | _) <;> rfl) (by rintro (_ | _) <;> rfl) (fun _ => rfl) (List.Perm.refl _) nofun

theorem started_phased {s t : State} (hunit : ∃ f, t.unitPort = .started f) (hdock : ∃ f, t.dockPort = .started f)
    (hm : PortsRight s → t.moveAll = none) (horder : t.order.Perm initialOrder)
    (he : ∀ st : StepInProgress, t.engine = some st → st.work.forPort = none ∧ t.power = .present) : Phased s t := by
  obtain ⟨f, hunit⟩ := hunit
  obtain ⟨g, hdock⟩ := hdock
  refine .restarted ?_ ?_ hm horder he
  · rintro (_ | _)
    · show t.unitPort.phase = .idle
      rw [hunit]
      rfl
    · show t.dockPort.phase = .idle
      rw [hdock]
      rfl
  · rintro (_ | _)
    · show t.unitPort.frame = none
      rw [hunit]
      rfl
    · show t.dockPort.frame = none
      rw [hdock]
      rfl

theorem exec_power_phased {c : Instr} {s t : State} (hc : powerRow c = true ∨ c = .retentionSupplyFails)
    (h : exec c s = .next t) : Phased s t := by
  cases c <;> first
    | (rcases hc with hc | hc <;> cases hc; done)
    | skip
  case mainPowerLoss b =>
    cases h
    split
    · exact powerDown_phased s _
    · exact .quiet (Quiet.refl s)
  case mainPowerReturn k =>
    cases h
    split
    · exact .quiet (Quiet.refl s)
    · rename_i hp
      have hlost : s.power = .lost := by
        unfold State.powered at hp
        cases hpower : s.power <;> simp_all
      cases k with
      | some k => exact powerDown_phased s _
      | none =>
        dsimp only
        unfold State.startStages
        split
        · refine started_phased ⟨_, rfl⟩ ⟨_, rfl⟩ (fun hs => ?_) ?_ ?_
          · obtain ⟨-, -, -, -, -, -, -, hdark⟩ := hs
            exact (hdark hlost).2
          · exact (show (granted .gap initialOrder).Perm initialOrder by decide)
          · rintro st ⟨⟩
            exact ⟨rfl, rfl⟩
        · exact started_phased ⟨_, rfl⟩ ⟨_, rfl⟩ (fun _ => rfl) (List.Perm.refl _) nofun
  case retentionSupplyFails =>
    cases h
    split
    · exact .quiet (Quiet.refl s)
    · exact .quiet (.of_eq rfl rfl rfl rfl rfl rfl)

/-- Every command makes one of the changes. -/
theorem exec_phased {c : Instr} {s t : State} (h : exec c s = .next t) : Phased s t := by
  have hsame : ∀ u : State, u.power = s.power → u.engine = s.engine → u.order = s.order → u.moveAll = s.moveAll →
      u.unitPort = s.unitPort → u.dockPort = s.dockPort → Phased s u :=
    fun u h1 h2 h3 h4 h5 h6 => .quiet (.of_eq h1 h2 h3 h4 h5 h6)
  have hidle : Phased s s := .quiet (Quiet.refl s)
  cases hq : queuedFrame c with
  | some f => exact exec_queued_phased hq h
  | none =>
    cases hp : framePort c with
    | some p => exact exec_direct_phased hq hp h
    | none =>
      cases hs : stepsTable c with
      | true => exact exec_step_phased hs h
      | false =>
        cases c <;> first
          | (cases hq; done)
          | (cases hp; done)
          | (cases hs; done)
          | skip
        case mainPowerLoss | mainPowerReturn => exact exec_power_phased (.inl rfl) h
        case retentionSupplyFails => exact exec_power_phased (.inr rfl) h
        case setClockEvent =>
          cases h
          split
          · rename_i v hph
            split
            · have hold : s.unitPort.phase.settled := by
                rw [hph]
                exact ⟨nofun, nofun⟩
              refine .moved (u := s.shiftClock v) (p := .unit) ?_ (.inr ⟨_, rfl⟩) (fun _ => hold) ⟨nofun, nofun⟩ nofun
              exact .of_eq rfl rfl rfl rfl rfl rfl
            · exact hidle
          · exact hidle
        case routeClockSecond =>
          cases h
          exact hsame _ rfl rfl rfl rfl rfl rfl
        case doorOpens k =>
          cases h
          split_ifs
          · exact hidle
          · exact hsame _ rfl rfl rfl rfl rfl rfl
          · exact hsame _ rfl rfl rfl rfl rfl rfl
        case doorCloses k =>
          cases h
          split_ifs
          · exact hidle
          · exact hsame _ rfl rfl rfl rfl rfl rfl
          · exact hsame _ rfl rfl rfl rfl rfl rfl
        case doorLong k =>
          cases h
          split_ifs
          · refine .quiet (Quiet.trans ?_ (Quiet.raise _ _))
            exact .of_eq rfl rfl rfl rfl rfl rfl
          · exact hidle
        case scanTick =>
          cases h
          split
          · split_ifs
            · exact .quiet (Quiet.setOutside.trans (Quiet.startScan _))
            · exact .quiet (Quiet.setOutside.trans (Quiet.setOutside.trans (Quiet.raise _ _)))
            · exact hidle
          · exact hidle
        case probeAnswer n a ok =>
          cases h
          split
          · split
            · exact .quiet (Quiet.endPoll _ _ _ _)
            · exact hidle
          · exact hidle
        case probeSilent =>
          cases h
          split
          · exact .quiet (Quiet.endPoll _ _ _ _)
          · exact hidle
        case offerDeadlineReached =>
          cases h
          split
          · exact hsame _ rfl rfl rfl rfl rfl rfl
          · exact hidle

end Sys2Proof.Machine
end

section
/-!
PROOFS. The arbiter's order and the ports' agreement with the engine stay right (R12, R120, R171 to R177).
-/
namespace Sys2Proof.Machine

/-! ### The step that works for a port -/

/-- A step in progress whose result is not discarded works for a port's command. -/
def Live (e : Option StepInProgress) (p : PortId) (cmd : PortCommand) : Prop :=
  ∃ st : StepInProgress, e = some st ∧ st.discarded = false ∧ st.work.forPort = some (p, cmd)

theorem not_live_none {p : PortId} {cmd : PortCommand} : ¬ Live none p cmd := fun ⟨_, h, _⟩ => nomatch h

theorem live_some_iff {st : StepInProgress} {p : PortId} {cmd : PortCommand} :
    Live (some st) p cmd ↔ st.discarded = false ∧ st.work.forPort = some (p, cmd) := by
  constructor
  · rintro ⟨_, ⟨⟩, h⟩
    exact h
  · exact fun h => ⟨st, rfl, h⟩

theorem Live.unique {e : Option StepInProgress} {p q : PortId} {a b : PortCommand} (h : Live e p a) (h' : Live e q b) :
    p = q ∧ a = b := by
  obtain ⟨st, rfl, -, hp⟩ := h
  obtain ⟨_, ⟨⟩, -, hq⟩ := h'
  rw [hp] at hq
  cases hq
  exact ⟨rfl, rfl⟩

theorem PortsRight.live {s : State} (h : PortsRight s) (p : PortId) (cmd : PortCommand) :
    (s.port p).phase = .working cmd ↔ Live s.engine p cmd := h.1 p cmd

theorem Outer.order {s t : State} (h : Outer s t) : t.order = s.order := by
  obtain ⟨_, _, _, _, rfl⟩ := h
  rfl

/-! ### Changes that no phase sees, and changes of one port's phase -/

theorem Quiet.portsRight {s t : State} (h : Quiet s t) (hs : PortsRight s) : PortsRight t := by
  obtain ⟨hlive, hmove, hdock, hresult, hended, hcancel, hengine, hpower⟩ := hs
  have hunit : t.unitPort.phase = s.unitPort.phase := h.phase .unit
  have hdockph : t.dockPort.phase = s.dockPort.phase := h.phase .dock
  refine ⟨fun p cmd => ?_, ?_, ?_, fun p fr n hfr hc => ?_, fun m r hm hr => ?_, fun fr hfr => ?_, fun st p hst => ?_,
    fun hl => ?_⟩
  · rw [h.phase, h.engine]
    exact hlive p cmd
  · rw [h.moveAll, hunit]
    exact hmove
  · rw [hdockph]
    exact hdock
  · rcases h.frame p fr hfr with ⟨hplain, -⟩ | ⟨fr', hfr', he⟩
    · exact absurd hc (hplain n)
    · rw [h.phase]
      exact hresult p fr' n hfr' (he.trans hc)
  · rw [hunit]
    exact hended m r (h.moveAll ▸ hm) hr
  · rcases h.frame .dock fr hfr with ⟨-, hplain⟩ | ⟨fr', hfr', he⟩
    · exact hplain
    · exact he ▸ hcancel fr' hfr'
  · exact hengine st p (h.engine ▸ hst)
  · rw [h.engine, h.moveAll]
    exact hpower (h.power ▸ hl)

/-- A change of one port's phase, of the step in progress and of the move-all record that keeps them agreeing. -/
theorem PortsRight.update {s t : State} {p : PortId} {ph : PortPhase} (hs : PortsRight s)
    (hphase : ∀ q : PortId, (t.port q).phase = if q = p then ph else (s.port q).phase)
    (hframe : ∀ q : PortId, (t.port q).frame = (s.port q).frame)
    (hfound : ∀ (fr : OpenFrame) (n : Nat), (s.port p).frame = some fr → fr.capture = .result .waiting n →
      ∃ r : Result, ph = .result r)
    (hwork : ∀ cmd : PortCommand, ph = .working cmd ↔ Live t.engine p cmd)
    (hother : ∀ (q : PortId) (cmd : PortCommand), q ≠ p → (Live t.engine q cmd ↔ Live s.engine q cmd))
    (hmove : t.moveAll.isSome = true ↔ (t.port .unit).phase.inFlight = some .moveAll)
    (hdock : p = .dock → ph.inFlight ≠ some .moveAll)
    (hended : ∀ (m : MoveAllRecord) (r : Result),
      t.moveAll = some m → m.hold = .ended r → (t.port .unit).phase = .waiting .moveAll)
    (hengine : ∀ (st : StepInProgress) (q : PortId), t.engine = some st → st.work ≠ .port q .moveAll)
    (hpower : t.power = .lost → t.engine = none ∧ t.moveAll = none) : PortsRight t := by
  obtain ⟨hlive, -, hdock', hresult, -, hcancel, -, -⟩ := hs
  refine ⟨fun q cmd => ?_, hmove, ?_, fun q fr n hfr hc => ?_, hended, fun fr hfr => ?_, hengine, hpower⟩
  · rw [hphase]
    split
    · rename_i hq
      exact hq ▸ hwork cmd
    · rename_i hq
      exact (hlive q cmd).trans (hother q cmd hq).symm
  · have hd : t.dockPort.phase = if PortId.dock = p then ph else s.dockPort.phase := hphase .dock
    rw [hd]
    split
    · rename_i hp
      exact hdock hp.symm
    · exact hdock'
  · rw [hframe] at hfr
    rw [hphase]
    split
    · rename_i hq
      exact hfound fr n (hq ▸ hfr) hc
    · exact hresult q fr n hfr hc
  · have hf : t.dockPort.frame = s.dockPort.frame := hframe .dock
    exact hcancel fr (hf ▸ hfr)

theorem setPhase_phase (s : State) (p q : PortId) (ph : PortPhase) :
    ((s.setPhase p ph).port q).phase = if q = p then ph else (s.port q).phase := by
  unfold State.setPhase
  split
  · rename_i h
    rw [h, State.setPort_port]
  · rename_i h
    rw [State.setPort_port_ne _ _ h]

theorem setPhase_frame (s : State) (p q : PortId) (ph : PortPhase) :
    ((s.setPhase p ph).port q).frame = (s.port q).frame := by
  unfold State.setPhase
  by_cases h : q = p
  · rw [h, State.setPort_port]
  · rw [State.setPort_port_ne _ _ h]

/-- A state that differs in its engine and its move-all record has the same ports. -/
theorem port_setEngine (s : State) (e : Option StepInProgress) (m : Option MoveAllRecord) (o : List Requester)
    (p : PortId) : ({ s with engine := e, moveAll := m, order := o } : State).port p = s.port p := by
  cases p <;> rfl

/-- The changes of `update` written as updates of the state. -/
theorem PortsRight.set {s : State} (hs : PortsRight s) (p : PortId) (ph : PortPhase) (e : Option StepInProgress)
    (m : Option MoveAllRecord) (o : List Requester)
    (hfound : ∀ (fr : OpenFrame) (n : Nat), (s.port p).frame = some fr → fr.capture = .result .waiting n →
      ∃ r : Result, ph = .result r)
    (hwork : ∀ cmd : PortCommand, ph = .working cmd ↔ Live e p cmd)
    (hother : ∀ (q : PortId) (cmd : PortCommand), q ≠ p → (Live e q cmd ↔ Live s.engine q cmd))
    (hmove : m.isSome = true ↔ (if PortId.unit = p then ph else (s.port .unit).phase).inFlight = some .moveAll)
    (hdock : p = .dock → ph.inFlight ≠ some .moveAll)
    (hended : ∀ (x : MoveAllRecord) (r : Result), m = some x → x.hold = .ended r →
      (if PortId.unit = p then ph else (s.port .unit).phase) = .waiting .moveAll)
    (hengine : ∀ (st : StepInProgress) (q : PortId), e = some st → st.work ≠ .port q .moveAll)
    (hpower : s.power = .lost → e = none ∧ m = none) :
    PortsRight (State.setPhase { s with engine := e, moveAll := m, order := o } p ph) := by
  have hphase : ∀ q : PortId,
      ((State.setPhase { s with engine := e, moveAll := m, order := o } p ph).port q).phase
        = if q = p then ph else (s.port q).phase := by
    intro q
    rw [setPhase_phase, port_setEngine]
  refine hs.update hphase (fun q => ?_) hfound (fun cmd => ?_) (fun q cmd hq => ?_) ?_ hdock (fun x r hx hr => ?_)
    (fun st q hst => ?_) (fun hl => ?_)
  · rw [setPhase_frame, port_setEngine]
  · rw [State.setPhase_engine]
    exact hwork cmd
  · rw [State.setPhase_engine]
    exact hother q cmd hq
  · rw [hphase, State.setPhase_moveAll]
    exact hmove
  · rw [hphase]
    rw [State.setPhase_moveAll] at hx
    exact hended x r hx hr
  · rw [State.setPhase_engine] at hst
    exact hengine st q hst
  · rw [State.setPhase_engine, State.setPhase_moveAll]
    rw [State.setPhase_power] at hl
    exact hpower hl

/-! ### The cases -/

/-- A frame opened, and the move-all record perhaps held. -/
theorem PortsRight.opened {s : State} (hs : PortsRight s) (p : PortId) (code : Byte) (c : Capture) (reply : List Byte)
    (m : Option MoveAllRecord) (hfound : ∀ n : Nat, c = .result .waiting n → ∃ r : Result, (s.port p).phase = .result r)
    (hheld : p = .dock → c ≠ .cancel true) (hsome : m.isSome = s.moveAll.isSome)
    (hm : ∀ (x : MoveAllRecord) (r : Result), m = some x → x.hold = .ended r →
      ∃ y : MoveAllRecord, s.moveAll = some y ∧ y.hold = .ended r)
    (hnone : s.moveAll = none → m = none) :
    PortsRight (State.open { s with moveAll := m } p code c reply) := by
  obtain ⟨hlive, hmove, hdock, hresult, hended, hcancel, hengine, hpower⟩ := hs
  have hport : ∀ q : PortId, ({ s with moveAll := m } : State).port q = s.port q := by rintro (_ | _) <;> rfl
  have hself : (State.open { s with moveAll := m } p code c reply).port p
      = { s.port p with frame := some { code := code, capture := c }, reply := reply } := by
    rw [State.open, State.setPort_port, hport]
  have hne : ∀ q : PortId, q ≠ p → (State.open { s with moveAll := m } p code c reply).port q = s.port q := by
    intro q hq
    rw [State.open, State.setPort_port_ne _ _ hq, hport]
  have hphase : ∀ q : PortId, ((State.open { s with moveAll := m } p code c reply).port q).phase = (s.port q).phase := by
    intro q
    by_cases hq : q = p
    · rw [hq, hself]
    · rw [hne q hq]
  have he : (State.open { s with moveAll := m } p code c reply).engine = s.engine := State.setPort_engine _ _ _
  have hmo : (State.open { s with moveAll := m } p code c reply).moveAll = m := State.setPort_moveAll _ _ _
  have hpw : (State.open { s with moveAll := m } p code c reply).power = s.power := State.setPort_power _ _ _
  have hunit := hphase .unit
  have hdockph := hphase .dock
  refine ⟨fun q cmd => ?_, ?_, ?_, fun q fr n hfr hc => ?_, fun x r hx hr => ?_, fun fr hfr => ?_, fun st q hst => ?_,
    fun hl => ?_⟩
  · rw [hphase, he]
    exact hlive q cmd
  · rw [hmo, hsome]
    exact hmove.trans (by rw [← show _ = s.unitPort.phase from hunit]; rfl)
  · intro hd
    exact hdock (by rw [← show _ = s.dockPort.phase from hdockph]; exact hd)
  · rw [hphase]
    by_cases hq : q = p
    · subst hq
      rw [hself] at hfr
      cases hfr
      exact hfound n hc
    · rw [hne q hq] at hfr
      exact hresult q fr n hfr hc
  · obtain ⟨y, hy, hyr⟩ := hm x r (hmo ▸ hx) hr
    have hwaiting := hended y r hy hyr
    exact (show _ = s.unitPort.phase from hunit).trans hwaiting
  · by_cases hq : PortId.dock = p
    · have hfr' : ((State.open { s with moveAll := m } p code c reply).port .dock).frame = some fr := hfr
      subst hq
      rw [hself] at hfr'
      cases hfr'
      exact hheld rfl
    · have hfr' : ((State.open { s with moveAll := m } p code c reply).port .dock).frame = some fr := hfr
      rw [hne _ hq] at hfr'
      exact hcancel fr hfr'
  · exact hengine st q (he ▸ hst)
  · rw [he, hmo]
    obtain ⟨h1, h2⟩ := hpower (hpw ▸ hl)
    exact ⟨h1, hnone h2⟩

theorem heldByCancel_ended {m : MoveAllRecord} {r : Result} (h : m.heldByCancel.hold = .ended r) : m.hold = .ended r := by
  unfold MoveAllRecord.heldByCancel at h
  split at h
  · cases h
  · exact h
  · exact h
  · exact h

/-- A settled phase replaced by another. -/
theorem PortsRight.moved {s : State} (hs : PortsRight s) {p : PortId} {ph : PortPhase}
    (hframe : (s.port p).frame = none ∨ ∃ r : Result, ph = .result r) (hold : (s.port p).phase.settled)
    (hnew : ph.settled) : PortsRight (s.setPhase p ph) := by
  obtain ⟨hlive, hmove, hdock, hresult, hended, hcancel, hengine, hpower⟩ := id hs
  have hunit : s.unitPort.phase = (s.port .unit).phase := rfl
  refine hs.set p ph s.engine s.moveAll s.order (fun fr n hfr hc => ?_) (fun cmd => ?_) (fun _ _ _ => Iff.rfl) ?_
    (fun _ => hnew.1) (fun x r hx hr => ?_) hengine hpower
  · rcases hframe with h | h
    · rw [h] at hfr
      cases hfr
    · exact h
  · exact iff_of_false (hnew.2 cmd) fun h => hold.2 cmd ((hlive p cmd).mpr h)
  · rw [hmove]
    split
    · rename_i hp
      subst hp
      exact iff_of_false hold.1 hnew.1
    · rfl
  · have hwaiting := hended x r hx hr
    split
    · rename_i hp
      subst hp
      exact absurd (by rw [← hunit, hwaiting]; rfl) hold.1
    · exact hwaiting

theorem PortsRight.walkStarted {s : State} (hs : PortsRight s) (hpower : s.power = .present)
    (hframe : (s.port .unit).frame = none) (hold : (s.port .unit).phase.settled) (a b : Byte) :
    PortsRight (s.startWalk .unit a b) := by
  obtain ⟨hlive, -, -, -, -, -, hengine, -⟩ := id hs
  refine hs.set .unit (.waiting .moveAll) s.engine _ s.order (fun fr n hfr _ => ?_) (fun cmd => ?_)
    (fun _ _ _ => Iff.rfl) (by simp [PortPhase.inFlight]) nofun (fun x r hx hr => ?_) hengine (fun hl => ?_)
  · rw [hframe] at hfr
    cases hfr
  · exact iff_of_false nofun fun h => hold.2 cmd ((hlive .unit cmd).mpr h)
  · rfl
  · rw [hpower] at hl
    cases hl

/-- While a MOVE ALL is in flight, the Unit Port waits unless a slot step of it is in progress. -/
theorem PortsRight.waiting_of_moveAll {s : State} (hs : PortsRight s) {m : MoveAllRecord} (hm : s.moveAll = some m)
    (hstep : s.walkStepInProgress = false) : (s.port .unit).phase = .waiting .moveAll := by
  obtain ⟨hlive, hmove, -, -, -, -, hengine, -⟩ := hs
  have hflight : (s.port .unit).phase.inFlight = some .moveAll := hmove.mp (by rw [hm]; rfl)
  cases hph : (s.port .unit).phase with
  | waiting cmd =>
    rw [hph] at hflight
    cases hflight
    rfl
  | working cmd =>
    rw [hph] at hflight
    cases hflight
    obtain ⟨st, hst, hd, hw⟩ := (hlive .unit .moveAll).mp hph
    have hslot : st.work.isMoveAll = true := by
      cases hwork : st.work with
      | moveAllSlot a b i => rfl
      | port q cmd =>
        rw [hwork] at hw
        cases hw
        exact absurd hwork (hengine st _ hst)
      | accrual | gap | lapse => rw [hwork] at hw; cases hw
    simp [State.walkStepInProgress, hst, hslot, hd] at hstep
  | idle | result _ =>
    rw [hph] at hflight
    cases hflight

/-- A walk whose Unit Port waits ends: its result is placed. -/
theorem PortsRight.endWalk {s : State} (hs : PortsRight s) (hph : (s.port .unit).phase = .waiting .moveAll) (r : Result) :
    PortsRight (s.endWalk r) := by
  obtain ⟨hlive, -, -, -, -, -, hengine, hpower⟩ := id hs
  refine hs.set .unit (.result r) s.engine none s.order (fun _ _ _ _ => ⟨r, rfl⟩) (fun cmd => ?_) (fun _ _ _ => Iff.rfl)
    (by simp [PortPhase.inFlight]) nofun nofun hengine (fun hl => ⟨(hpower hl).1, rfl⟩)
  exact iff_of_false nofun fun h => by
    rw [(hlive .unit cmd).mpr h] at hph
    cases hph

/-- The move-all record replaced by one with another hold that holds no result. -/
theorem PortsRight.setHold {s : State} (hs : PortsRight s) {m m' : MoveAllRecord} (hm : s.moveAll = some m)
    (hhold : ∀ r : Result, m'.hold ≠ .ended r) : PortsRight { s with moveAll := some m' } := by
  obtain ⟨hlive, hmove, hdock, hresult, -, hcancel, hengine, hpower⟩ := hs
  refine ⟨fun p => ?_, ?_, hdock, fun p => ?_, fun x r hx hr => ?_, hcancel, hengine, fun hl => ?_⟩
  · cases p
    · exact hlive .unit
    · exact hlive .dock
  · rw [hm] at hmove
    exact hmove
  · cases p
    · exact hresult .unit
    · exact hresult .dock
  · cases hx
    exact absurd hr (hhold r)
  · have hnone := (hpower hl).2
    rw [hm] at hnone
    cases hnone

theorem PortsRight.cancelWalk {s : State} (hs : PortsRight s) : PortsRight s.cancelWalk := by
  unfold State.cancelWalk
  split
  · rename_i m hm
    split
    · exact hs.setHold hm nofun
    · rename_i hstep
      exact hs.endWalk (hs.waiting_of_moveAll hm (by simpa using hstep)) _
  · exact hs

theorem PortsRight.releaseWalk {s : State} (hs : PortsRight s) : PortsRight s.releaseWalk := by
  unfold State.releaseWalk
  split
  · rename_i m hm
    split
    · exact hs.setHold hm nofun
    · rename_i r hr
      obtain ⟨-, -, -, -, hended, -⟩ := id hs
      exact hs.endWalk (hended m r hm hr) _
    · exact hs
    · exact hs
  · exact hs

theorem not_live_discarded (s : State) (p : PortId) (cmd : PortCommand) : ¬ Live s.discardStep.engine p cmd := by
  rintro ⟨st, hst, hd, -⟩
  obtain ⟨st', -, rfl⟩ := Option.map_eq_some_iff.mp hst
  cases hd

theorem dropMoveAll_of_ne {s : State} {cmd : PortCommand} (h : cmd ≠ .moveAll) : s.dropMoveAll cmd = s := by
  unfold State.dropMoveAll
  split
  · exact absurd rfl h
  · rfl

/-- A MOVE ALL in flight is the Unit Port's. -/
theorem PortsRight.unit_of_moveAll {s : State} (hs : PortsRight s) {p : PortId}
    (h : (s.port p).phase.inFlight = some .moveAll) : p = .unit := by
  obtain ⟨-, -, hdock, -⟩ := hs
  cases p with
  | unit => rfl
  | dock => exact absurd h hdock

/-- A command in flight dropped: its port IDLE, its MOVE ALL gone, and its step in progress discarded. -/
theorem PortsRight.dropped {s : State} (hs : PortsRight s) {p : PortId} (hframe : (s.port p).frame = none) :
    PortsRight ((s.dropCommand (s.port p).phase).setPhase p .idle) := by
  obtain ⟨hlive, hmove, hdock, hresult, hended, hcancel, hengine, hpower⟩ := id hs
  have hidle : PortPhase.idle.settled := ⟨nofun, nofun⟩
  have hunit : (s.port .unit).phase = s.unitPort.phase := rfl
  have hfound : ∀ (fr : OpenFrame) (n : Nat), (s.port p).frame = some fr → fr.capture = .result .waiting n →
      ∃ r : Result, PortPhase.idle = .result r := by
    intro fr n hfr
    rw [hframe] at hfr
    cases hfr
  unfold State.dropCommand
  cases hph : (s.port p).phase with
  | idle => exact hs.moved (.inl hframe) (by rw [hph]; exact ⟨nofun, nofun⟩) hidle
  | result r => exact hs.moved (.inl hframe) (by rw [hph]; exact ⟨nofun, nofun⟩) hidle
  | waiting cmd =>
    by_cases hcmd : cmd = .moveAll
    · subst hcmd
      obtain rfl := hs.unit_of_moveAll (p := p) (by rw [hph]; rfl)
      refine hs.set .unit .idle s.engine none s.order hfound (fun cmd => ?_) (fun _ _ _ => Iff.rfl)
        (by simp [PortPhase.inFlight]) nofun nofun hengine (fun hl => ⟨(hpower hl).1, rfl⟩)
      exact iff_of_false nofun fun h => by
        rw [(hlive .unit cmd).mpr h] at hph
        cases hph
    · dsimp only
      rw [dropMoveAll_of_ne hcmd]
      refine hs.moved (.inl hframe) ?_ hidle
      rw [hph]
      exact ⟨fun h => hcmd (Option.some.inj h), nofun⟩
  | working cmd =>
    have hp := (hlive p cmd).mp hph
    have hnot : ∀ (q : PortId) (cmd' : PortCommand), q ≠ p → ¬ Live s.engine q cmd' :=
      fun q cmd' hq h => hq (h.unique hp).1
    have hother : ∀ (q : PortId) (cmd' : PortCommand), q ≠ p → (Live s.discardStep.engine q cmd' ↔ Live s.engine q cmd') :=
      fun q cmd' hq => iff_of_false (not_live_discarded s q cmd') (hnot q cmd' hq)
    have hengine' : ∀ (st : StepInProgress) (q : PortId), s.discardStep.engine = some st → st.work ≠ .port q .moveAll := by
      intro st q hst
      obtain ⟨st', hst', rfl⟩ := Option.map_eq_some_iff.mp hst
      exact hengine st' q hst'
    have hpower' : s.power = .lost → s.discardStep.engine = none := by
      intro hl
      simp [State.discardStep, (hpower hl).1]
    have hwork : ∀ cmd' : PortCommand, PortPhase.idle = .working cmd' ↔ Live s.discardStep.engine p cmd' :=
      fun cmd' => iff_of_false nofun (not_live_discarded s p cmd')
    dsimp only
    by_cases hcmd : cmd = .moveAll
    · subst hcmd
      obtain rfl := hs.unit_of_moveAll (p := p) (by rw [hph]; rfl)
      exact hs.set .unit .idle s.discardStep.engine none s.order hfound hwork hother (by simp [PortPhase.inFlight]) nofun
        nofun hengine' (fun hl => ⟨hpower' hl, rfl⟩)
    · rw [dropMoveAll_of_ne hcmd]
      refine hs.set p .idle s.discardStep.engine s.moveAll s.order hfound hwork hother ?_ nofun (fun x r hx hr => ?_)
        hengine' (fun hl => ⟨hpower' hl, (hpower hl).2⟩)
      · rw [hmove]
        split
        · rename_i hup
          subst hup
          rw [← hunit, hph]
          exact iff_of_false (fun h => hcmd (Option.some.inj h)) nofun
        · rfl
      · have hwaiting := hended x r hx hr
        split
        · rename_i hup
          subst hup
          rw [← hunit, hph] at hwaiting
          cases hwaiting
        · exact hwaiting

theorem PortsRight.resetPort {s : State} (hs : PortsRight s) {p : PortId} (hframe : (s.port p).frame = none) :
    PortsRight (s.resetPort p) := by
  have hdrop : (s.dropCommand (s.port p).phase).port p = s.port p := by
    unfold State.dropCommand State.dropMoveAll
    split
    · rfl
    · split <;> cases p <;> rfl
    · split <;> cases p <;> rfl
    · rfl
  have hquiet : Quiet ((s.dropCommand (s.port p).phase).setPhase p .idle) (s.resetPort p) := by
    have he : s.resetPort p = ((s.dropCommand (s.port p).phase).setPhase p .idle).setPort p
        ((s.port p).afterReset (s.portWalkInProgress p)) := by
      rw [State.setPhase, State.setPort_setPort]
      rfl
    rw [he]
    refine Quiet.setPort ?_ (.inl ?_)
    · rw [setPhase_phase, if_pos rfl]
      rfl
    · rw [setPhase_frame, hdrop]
      rfl
  exact hquiet.portsRight (hs.dropped hframe)

/-! ### Steps -/

theorem mem_order_of_mayGrant {s : State} {r : Requester} (h : s.mayGrant r = true) : r ∈ s.order := by
  obtain ⟨-, -, -, hfind⟩ := mayGrant_iff.mp h
  exact List.mem_of_find?_eq_some hfind

/-- A slot step is granted to a walk that no CANCEL holds. -/
theorem free_of_slotGrant {s : State} (h : s.mayGrant .unitPort = true) (hph : (s.port .unit).phase = .waiting .moveAll)
    {m : MoveAllRecord} (hm : s.moveAll = some m) : m.hold = .free := by
  obtain ⟨-, -, -, hfind⟩ := mayGrant_iff.mp h
  have hstep : s.stepWaiting .unitPort = true := List.find?_some hfind
  have hwaiting : s.portWaiting .unit = true := hstep
  unfold State.portWaiting at hwaiting
  rw [hph, hm] at hwaiting
  simpa using hwaiting

/-- A port's step begins: the port enters WORKING. -/
theorem PortsRight.began {s : State} (hs : PortsRight s) {r : Requester} (hg : s.mayGrant r = true) {p : PortId}
    {cmd : PortCommand} (hph : (s.port p).phase = .waiting cmd) {w : StepWork} (hw : w.forPort = some (p, cmd))
    (hwork : ∀ q : PortId, w ≠ .port q .moveAll) (hhold : ∀ (m : MoveAllRecord) (x : Result), s.moveAll = some m →
      m.hold = .ended x → p ≠ .unit) :
    PortsRight ((s.grant r w).setPhase p (.working cmd)) := by
  obtain ⟨hpresent, hnone, -, -⟩ := mayGrant_iff.mp hg
  obtain ⟨hlive, hmove, hdock, hresult, hended, -, -, -⟩ := id hs
  refine hs.set p (.working cmd) (some { work := w, inputs := s.inputs, discarded := false }) s.moveAll
    (Sys2Proof.Machine.granted r s.order) (fun fr n hfr hc => ?_) (fun cmd' => ?_) (fun q cmd' hq => ?_) ?_ (fun hp => ?_)
    (fun x res hx hr => ?_) (fun st q hst => ?_) (fun hl => ?_)
  · obtain ⟨res, hres⟩ := hresult p fr n hfr hc
    rw [hph] at hres
    cases hres
  · rw [live_some_iff, hw]
    simp
  · rw [live_some_iff, hw, hnone]
    refine iff_of_false ?_ not_live_none
    rintro ⟨-, h⟩
    cases h
    exact hq rfl
  · rw [hmove]
    split
    · rename_i hp
      subst hp
      have hunit : s.unitPort.phase = .waiting cmd := hph
      rw [hunit]
      rfl
    · rfl
  · subst hp
    intro h
    refine hdock ?_
    have hd : s.dockPort.phase = .waiting cmd := hph
    rw [hd]
    exact h
  · rw [if_neg (hhold x res hx hr).symm]
    exact hended x res hx hr
  · cases hst
    exact hwork q
  · rw [hpresent] at hl
    cases hl

theorem PortsRight.ownBegan {s : State} (hs : PortsRight s) {r : Requester} (hg : s.mayGrant r = true) {w : StepWork}
    (hw : w.forPort = none) : PortsRight (s.grant r w) := by
  obtain ⟨hpresent, hnone, -, -⟩ := mayGrant_iff.mp hg
  obtain ⟨hlive, hmove, hdock, hresult, hended, hcancel, hengine, hpower⟩ := hs
  have hport : ∀ p, (s.grant r w).port p = s.port p := by rintro (_ | _) <;> rfl
  refine ⟨fun p cmd => ?_, hmove, hdock, fun p fr n hfr hc => ?_, hended, hcancel, fun st p hst => ?_, fun hl => ?_⟩
  · rw [hport, hlive, hnone]
    refine iff_of_false not_live_none ?_
    rintro ⟨st, hst, -, hf⟩
    cases hst
    rw [hw] at hf
    cases hf
  · rw [hport] at hfr ⊢
    exact hresult p fr n hfr hc
  · cases hst
    rintro rfl
    cases hw
  · have hl' : s.power = .lost := hl
    rw [hpresent] at hl'
    cases hl'

/-- A step that works for no port, or whose result is discarded, ends. -/
theorem PortsRight.freed {s : State} (hs : PortsRight s) (hnot : ∀ p cmd, ¬ Live s.engine p cmd) :
    PortsRight s.freeEngine := by
  obtain ⟨hlive, hmove, hdock, hresult, hended, hcancel, -, hpower⟩ := hs
  have hport : ∀ p, s.freeEngine.port p = s.port p := by rintro (_ | _) <;> rfl
  refine ⟨fun p cmd => ?_, hmove, hdock, fun p fr n hfr hc => ?_, hended, hcancel, nofun, fun hl => ⟨rfl, (hpower hl).2⟩⟩
  · rw [hport, hlive]
    exact iff_of_false (hnot p cmd) not_live_none
  · rw [hport] at hfr ⊢
    exact hresult p fr n hfr hc

/-- A port's step that ends with its result: the port enters RESULT. -/
theorem PortsRight.placed {s : State} (hs : PortsRight s) {p : PortId} {cmd : PortCommand} (hp : Live s.engine p cmd)
    (hcmd : cmd ≠ .moveAll) (r : Result) : PortsRight (s.freeEngine.place p r) := by
  obtain ⟨hlive, hmove, hdock, hresult, hended, -, -, hpower⟩ := id hs
  have hph := (hlive p cmd).mpr hp
  have hunit : (s.port .unit).phase = s.unitPort.phase := rfl
  refine hs.set p (.result r) none s.moveAll s.order (fun _ _ _ _ => ⟨r, rfl⟩)
    (fun cmd' => iff_of_false nofun not_live_none)
    (fun q cmd' hq => iff_of_false not_live_none fun h => hq (h.unique hp).1) ?_ nofun (fun x res hx hr => ?_) nofun
    (fun hl => ⟨rfl, (hpower hl).2⟩)
  · rw [hmove]
    split
    · rename_i hup
      subst hup
      rw [← hunit, hph]
      exact iff_of_false (fun h => hcmd (Option.some.inj h)) nofun
    · rfl
  · have hwaiting := hended x res hx hr
    split
    · rename_i hup
      subst hup
      rw [← hunit, hph] at hwaiting
      cases hwaiting
    · exact hwaiting

/-- A slot step of the walk in flight that ends: the walk goes on, ends, or its result is held. -/
theorem PortsRight.settled {s : State} (hs : PortsRight s) (hp : Live s.engine .unit .moveAll) (hm : s.moveAll.isSome = true)
    (m : MoveAllRecord) (i : SlotNo) (e : Option Result) : PortsRight (s.freeEngine.settleWalk m i e) := by
  obtain ⟨hlive, hmove, hdock, hresult, hended, -, -, hpower⟩ := id hs
  have hph := (hlive .unit .moveAll).mpr hp
  have hother : ∀ (q : PortId) (cmd : PortCommand), q ≠ .unit → (Live none q cmd ↔ Live s.engine q cmd) :=
    fun q cmd hq => iff_of_false not_live_none fun h => hq (h.unique hp).1
  have hnolost : s.power ≠ .lost := by
    intro hl
    rw [(hpower hl).2] at hm
    cases hm
  have hend : ∀ r, PortsRight (s.freeEngine.endWalk r) := fun r =>
    hs.set .unit (.result r) none none s.order (fun _ _ _ _ => ⟨r, rfl⟩) (fun _ => iff_of_false nofun not_live_none)
      hother (by simp [PortPhase.inFlight]) nofun nofun nofun (fun _ => ⟨rfl, rfl⟩)
  have hgoes : ∀ m', PortsRight (s.freeEngine.continueWalk m') := by
    intro m'
    refine hs.set .unit (.waiting .moveAll) none (some m') s.order (fun fr n hfr hc => ?_)
      (fun _ => iff_of_false nofun not_live_none) hother (by simp [PortPhase.inFlight]) nofun (fun _ _ _ _ => rfl) nofun
      (fun hl => absurd hl hnolost)
    obtain ⟨res, hres⟩ := hresult .unit fr n hfr hc
    rw [hph] at hres
    cases hres
  unfold State.settleWalk
  split
  · exact hend _
  · exact hend _
  · exact hgoes _
  · exact hgoes _
  · exact hgoes _
  · exact hgoes _

theorem PortsRight.of_restarted {t : State} (hphase : ∀ p : PortId, (t.port p).phase = .idle)
    (hframe : ∀ p : PortId, (t.port p).frame = none) (hm : t.moveAll = none)
    (he : ∀ st : StepInProgress, t.engine = some st → st.work.forPort = none ∧ t.power = .present) : PortsRight t := by
  have hunit : t.unitPort.phase = .idle := hphase .unit
  have hdock : t.dockPort.phase = .idle := hphase .dock
  have hdockf : t.dockPort.frame = none := hframe .dock
  refine ⟨fun p cmd => ?_, ?_, ?_, fun p fr n hfr => ?_, fun m r h => ?_, fun fr hfr => ?_, fun st p hst hw => ?_,
    fun hl => ⟨?_, hm⟩⟩
  · rw [hphase]
    refine iff_of_false nofun ?_
    rintro ⟨st, hst, -, hf⟩
    rw [(he st hst).1] at hf
    cases hf
  · rw [hm, hunit]
    exact iff_of_false nofun nofun
  · rw [hdock]
    exact nofun
  · rw [hframe] at hfr
    cases hfr
  · rw [hm] at h
    cases h
  · rw [hdockf] at hfr
    cases hfr
  · have hf := (he st hst).1
    rw [hw] at hf
    cases hf
  · cases hst : t.engine with
    | none => rfl
    | some st =>
      have hpresent := (he st hst).2
      rw [hl] at hpresent
      cases hpresent

/-- The ports, the engine and the MOVE ALL in flight agree after every command. -/
theorem Phased.portsRight {s t : State} (h : Phased s t) (hs : PortsRight s) : PortsRight t := by
  have hs' := id hs
  obtain ⟨hlive, hmove, hdock, hresult, hended, hcancel, hengine, hpower⟩ := hs'
  cases h with
  | quiet h => exact h.portsRight hs
  | @resultRead p code n reply =>
    refine hs.opened p code _ reply s.moveAll (fun k hk => ?_) nofun rfl (fun x r hx hr => ⟨x, hx, hr⟩) id
    rcases found_not_waiting (ph := (s.port p).phase) (n := n) with ⟨hplain, -⟩ | hr
    · exact absurd hk (hplain k)
    · exact hr
  | @cancelRead p hmark =>
    refine hs.opened p _ _ _ _ nofun ?_ (by simp) (fun x r hx hr => ?_) (fun hn => by rw [hn]; rfl)
    · rintro rfl
      simp [State.cancelMark] at hmark
    · obtain ⟨y, hy, rfl⟩ := Option.map_eq_some_iff.mp hx
      exact ⟨y, hy, heldByCancel_ended hr⟩
  | @moved u p ph hq hframe hold hnew _ =>
    refine (hq.portsRight hs).moved hframe ?_ hnew
    rw [hq.phase]
    exact hold hs
  | @walkStarted u a b hq hpresent hframe hold =>
    refine (hq.portsRight hs).walkStarted (hq.power.trans hpresent) hframe ?_ a b
    rw [hq.phase]
    exact hold
  | cancelled hq => exact (hq.portsRight hs).cancelWalk
  | released hq => exact (hq.portsRight hs).releaseWalk
  | reset hq hframe => exact (hq.portsRight hs).resetPort hframe
  | @granted p cmd hg hph hcmd =>
    refine hs.began hg hph rfl (fun q hq => ?_) (fun m x hm hx hp => ?_)
    · cases hq
      exact hcmd rfl
    · subst hp
      have hwaiting : (s.port .unit).phase = .waiting .moveAll := hended m x hm hx
      rw [hph] at hwaiting
      cases hwaiting
      exact hcmd rfl
  | slotGranted hg hph =>
    refine hs.began hg hph rfl nofun fun m x hm hx => ?_
    have hfree := free_of_slotGrant hg hph hm
    rw [hx] at hfree
    cases hfree
  | ownGranted hg hw => exact hs.ownBegan hg hw
  | @freed st u _ hst hq hq' hw =>
    refine hq'.portsRight ((hq.portsRight hs).freed fun p cmd hl => ?_)
    rw [hq.engine, hst, live_some_iff] at hl
    rcases hw with hw | hw <;> simp [hw] at hl
  | @placed st p cmd u r hst hd hw hq =>
    refine (hq.portsRight hs).placed (p := p) (cmd := cmd) ?_ ?_ r
    · rw [hq.engine, hst, live_some_iff, hw]
      exact ⟨hd, rfl⟩
    · rintro rfl
      exact hengine st p hst hw
  | @slotEnded st m u a b i n e hst hd hw hm hq =>
    refine (hq.portsRight hs).settled ?_ ?_ _ i e
    · rw [hq.engine, hst, live_some_iff, hw]
      exact ⟨hd, rfl⟩
    · rw [hq.moveAll, hm]
      rfl
  | @slotLost st u a b i hst hd hw hm hq =>
    have hl : Live s.engine .unit .moveAll := by
      rw [hst, live_some_iff, hw]
      exact ⟨hd, rfl⟩
    have hsome : s.moveAll.isSome = true := hmove.mpr (by
      have hph : s.unitPort.phase = .working .moveAll := (hlive .unit .moveAll).mpr hl
      rw [hph]
      rfl)
    rw [hm] at hsome
    cases hsome
  | restarted hphase hframe hm _ he => exact .of_restarted hphase hframe (hm hs) he

/-! ### The arbiter's order (R12) -/

/-- The order after one command: as it was, with the requester granted lowest, or the one after a start. -/
theorem Phased.order {s t : State} (h : Phased s t) :
    t.order = s.order ∨ (∃ r : Requester, s.mayGrant r = true ∧ t.order = Sys2Proof.Machine.granted r s.order)
      ∨ t.order.Perm initialOrder := by
  cases h with
  | quiet h => exact .inl h.order
  | resultRead => exact .inl (Outer.opened _ _ _ _ _).order
  | cancelRead _ => exact .inl (Outer.opened _ _ _ _ _).order
  | moved hq => exact .inl ((Outer.setPhase _ _ _).order.trans hq.order)
  | walkStarted hq => exact .inl (((Outer.setMoveAll _ _).trans (Outer.acceptWaiting _ _ _)).order.trans hq.order)
  | cancelled hq => exact .inl ((Outer.cancelWalk _).order.trans hq.order)
  | released hq => exact .inl ((Outer.releaseWalk _).order.trans hq.order)
  | @reset u p hq _ =>
    refine .inl (Eq.trans ?_ hq.order)
    rw [State.resetPort, State.setPort_order]
    unfold State.dropCommand State.dropMoveAll
    split
    · rfl
    · split <;> rfl
    · split <;> rfl
    · rfl
  | granted hg => exact .inr (.inl ⟨_, hg, (Outer.setPhase _ _ _).order⟩)
  | slotGranted hg => exact .inr (.inl ⟨_, hg, (Outer.setPhase _ _ _).order⟩)
  | ownGranted hg _ => exact .inr (.inl ⟨_, hg, rfl⟩)
  | freed _ hq hq' _ => exact .inl (hq'.order.trans hq.order)
  | placed _ _ _ hq => exact .inl ((Outer.place _ _ _).order.trans hq.order)
  | slotEnded _ _ _ _ hq => exact .inl ((Outer.settleWalk _ _ _ _).order.trans hq.order)
  | slotLost _ _ _ _ hq => exact .inl hq.order
  | restarted _ _ _ horder _ => exact .inr (.inr horder)

theorem granted_perm {r : Requester} {order : List Requester} (h : r ∈ order) : (granted r order).Perm order :=
  (List.perm_append_comm (l₁ := order.erase r) (l₂ := [r])).trans (List.perm_cons_erase h).symm

theorem Phased.orderRight {s t : State} (h : Phased s t) (hs : OrderRight s) : OrderRight t := by
  rcases h.order with he | ⟨r, hg, he⟩ | hp
  · rw [OrderRight, he]
    exact hs
  · rw [OrderRight, he]
    exact (granted_perm (mem_order_of_mayGrant hg)).trans hs
  · exact hp

/-- Settles O52: what each command makes of the phases, the step in progress and the order keeps them agreeing. -/
theorem everyStepKeepsTheEngineRight : Obligations.EveryStepKeepsTheEngineRight := by
  intro s t horder hports hstep
  unfold step at hstep
  split at hstep
  · rename_i c rest _
    have hq : Quiet s (s.withPending rest) := .of_eq rfl rfl rfl rfl rfl rfl
    have hphased := exec_phased hstep
    exact ⟨hphased.orderRight horder, hphased.portsRight (hq.portsRight hports)⟩
  · cases hstep
    exact ⟨horder, hports⟩

end Sys2Proof.Machine
end

section
/-!
PROOFS. Classes, compartments, settings, the scanner and the offer timeout stay within their ranges and relations (R23,
R35, R130, R137, section 4.2).
-/
namespace Sys2Proof.Machine

/-! ### Classes -/

/-- What one command makes of the classes. -/
inductive ClassesChanged (s : State) : Vector (Option ClassLimits) 8 → Prop
  | same : ClassesChanged s s.classes
  | set {k : ClassNo} {v : Option ClassLimits} (huse : s.useCount[k] = 0)
      (hv : ∀ w : ClassLimits, v = some w → ∃ x : CarriedClass, w = x.clamped ∧ w.ordered = true) :
      ClassesChanged s (put s.classes k v)
  | unset : ClassesChanged s (Vector.replicate 8 none)

theorem Worked.classesChanged {st : StepInProgress} {s u : State} (h : Worked st s u) : ClassesChanged s u.classes := by
  cases h with
  | classSet huse hv => exact .set huse hv
  | admitted hfree hid hzero hk hc hr =>
    rw [takeAboard_eq]
    exact .same
  | _ => exact .same

theorem Outer.classes {s t : State} (h : Outer s t) : t.classes = s.classes := by
  obtain ⟨_, _, _, _, rfl⟩ := h
  rfl

theorem Scanned.classes {s t : State} (h : Scanned s t) : t.classes = s.classes := by
  obtain ⟨_, _, _, _, _, _, _, _, _, rfl⟩ := h
  rfl

theorem Finished.classes {st : StepInProgress} {u t : State} (h : Finished st u t) : t.classes = u.classes := by
  obtain ⟨v, hv, ht⟩ := h.scanned
  rw [ht.classes, hv.classes]
  rfl

theorem Changed.classesChanged {c : Instr} {s t : State} (h : Changed c s t) : ClassesChanged s t.classes := by
  cases h with
  | outer h => rw [h.classes]; exact .same
  | discarded h => rw [h.classes]; exact .same
  | granted _ _ _ _ h => rw [h.classes]; exact .same
  | ended _ hst hwork h =>
    rw [h.classes]
    exact hwork.classesChanged
  | stored _ _ h => rw [h.classes]; exact .same
  | defrosted _ _ h => rw [h.classes]; exact .same
  | periodSet h => rw [h.classes]; exact .same
  | timeoutSet h => rw [h.classes]; exact .same
  | clockSet _ h => rw [h.classes]; exact .same
  | second _ => exact .same
  | lineSet k b => exact .same
  | doorOpened _ => exact .same
  | doorShut _ => exact .same
  | doorLong h => rw [h.classes]; exact .same
  | ticked => rw [(Scanned.startScan _).classes]; exact .same
  | missed => exact .same
  | polled => rw [(Scanned.endPoll _ _ _ _).classes]; exact .same
  | powerLost _ hu =>
    rcases hu with rfl | ⟨st, hst, hwork⟩
    · exact .same
    · have hclasses := hwork.classesChanged
      exact hclasses
  | resumed => exact .same
  | blankStarted => exact .unset
  | resumeCut => exact .same
  | blankCut => exact .unset
  | unmarked => exact .same

theorem clampNat_range {lo hi : Nat} (h : lo ≤ hi) (x : Nat) : lo ≤ clampNat lo hi x ∧ clampNat lo hi x ≤ hi := by
  rw [clampNat_eq h]
  split_ifs <;> omega

theorem clampInt_range {lo hi : Int} (h : lo ≤ hi) (x : Int) : lo ≤ clampInt lo hi x ∧ clampInt lo hi x ≤ hi := by
  rw [clampInt_eq h]
  split_ifs <;> omega

/-- Clamped values in order are within the ranges of section 2.1. -/
theorem classRight_of_ordered {x : CarriedClass} (h : x.clamped.ordered = true) : ClassRight x.clamped := by
  unfold ClassLimits.ordered at h
  simp only [Bool.and_eq_true, decide_eq_true_eq, Option.all_eq_true] at h
  obtain ⟨hlt, hlow⟩ := h
  refine ⟨clampTemp_right _, clampTemp_right _, hlt, fun l hl => ?_, (clampNat_range (by decide) _).2,
    (clampNat_range (by decide) _).2, (clampNat_range (by decide) _).1, (clampNat_range (by decide) _).2,
    (clampNat_range (by decide) _).2⟩
  have horder := hlow l hl
  have hl' := hl
  simp only [CarriedClass.clamped] at hl'
  split at hl'
  · cases hl'
  · cases hl'
    exact ⟨clampTemp_right _, clampTemp_right _, horder.1, horder.2⟩

theorem Changed.classesRight {c : Instr} {s t : State} (h : Changed c s t) (hs : ClassesRight s) : ClassesRight t := by
  have hc := h.classesChanged
  intro k v hv
  generalize ht : t.classes = classes at hc
  rw [ht] at hv
  cases hc with
  | same => exact hs k v hv
  | @set j w huse hw =>
    rw [put_get] at hv
    split at hv
    · obtain ⟨x, rfl, hx⟩ := hw v hv
      exact classRight_of_ordered hx
    · exact hs k v hv
  | unset => simp at hv

/-! ### A compartment (R35) -/

/-- A compartment without main power keeps the relations that its settings and last good reading have. -/
theorem CompRight.dark {x : Compartment} (h : x.settings.active = false → x.lastGood = none) : CompRight x.dark :=
  ⟨Nat.zero_le _, Nat.zero_le _, fun h => absurd h (Nat.lt_irrefl 0), fun h => absurd h (Nat.lt_irrefl 0), nofun,
    fun ha => ⟨rfl, rfl, rfl, rfl, rfl, rfl, h ha, rfl⟩⟩

theorem switchOff_right (x : Compartment) (v : Settings) : CompRight (x.switchOff v) :=
  ⟨Nat.zero_le _, Nat.zero_le _, fun h => absurd h (Nat.lt_irrefl 0), fun h => absurd h (Nat.lt_irrefl 0), nofun,
    fun _ => ⟨rfl, rfl, rfl, rfl, rfl, rfl, rfl, rfl⟩⟩

theorem activate_right (x : Compartment) {v : Settings} (hv : v.active = true) (now : RouteTime) (line : Bool)
    (period : Nat) : CompRight (x.activate v now line period) := by
  refine ⟨Nat.zero_le _, Nat.zero_le _, fun h => absurd h (Nat.lt_irrefl 0), fun h => absurd h (Nat.lt_irrefl 0),
    fun h => ?_, fun ha => ?_⟩
  · cases line
    · cases h
    · rfl
  · have ha' : v.active = false := ha
    rw [hv] at ha'
    cases ha'

theorem CompRight.restore {x : Compartment} (h : CompRight x) {v : Settings} (hv : v.active = true) :
    CompRight (x.restore v) := by
  obtain ⟨hshield, hrecovery, hs, hr, hd, -⟩ := h
  have hoff : ∀ {P : Prop}, v.active = false → P := fun ha => by rw [hv] at ha; cases ha
  unfold Compartment.restore
  dsimp only
  split
  · exact ⟨Nat.zero_le _, Nat.zero_le _, fun h => absurd h (Nat.lt_irrefl 0), fun h => absurd h (Nat.lt_irrefl 0), hd,
      hoff⟩
  · refine ⟨Nat.min_le_right _ _, Nat.min_le_right _ _, fun h => hs ?_, fun h => hr ?_, hd, hoff⟩
    · exact Nat.lt_of_lt_of_le h (Nat.min_le_left _ _)
    · exact Nat.lt_of_lt_of_le h (Nat.min_le_left _ _)

theorem CompRight.startDefrost {x : Compartment} (h : CompRight x) (ha : x.active = true) : CompRight x.startDefrost := by
  obtain ⟨hshield, hrecovery, hs, hr, hd, -⟩ := h
  have hoff : ∀ {P : Prop}, x.settings.active = false → P := fun h => by
    rw [Compartment.active, h] at ha
    cases ha
  unfold Compartment.startDefrost
  split
  · exact ⟨le_rfl, Nat.zero_le _, nofun, fun h => absurd h (Nat.lt_irrefl 0), hd, hoff⟩
  · rename_i hdefrost
    exact ⟨hshield, Nat.zero_le _, hs, fun h => absurd h (Nat.lt_irrefl 0), hd, hoff⟩
  · exact ⟨le_rfl, Nat.zero_le _, nofun, fun h => absurd h (Nat.lt_irrefl 0), hd, hoff⟩

theorem CompRight.endDefrost {x : Compartment} (h : CompRight x) (ha : x.active = true) : CompRight x.endDefrost := by
  have h' := h
  obtain ⟨hshield, hrecovery, hs, hr, hd, -⟩ := h
  have hoff : ∀ {P : Prop}, x.settings.active = false → P := fun h => by
    rw [Compartment.active, h] at ha
    cases ha
  unfold Compartment.endDefrost
  split
  · exact h'
  · split
    · exact ⟨hshield, le_rfl, nofun, fun _ => rfl, hd, hoff⟩
    · exact ⟨Nat.zero_le _, Nat.zero_le _, fun h => absurd h (Nat.lt_irrefl 0), fun h => absurd h (Nat.lt_irrefl 0), hd,
        hoff⟩
  · exact h'

/-- The countdown at a snapshot ends the recovery, or lowers the two counters at most. -/
theorem countDown_cases (x : Compartment) :
    x.countDown = { x with defrost := .normal, shieldLeft := 0, recoveryLeft := 0 }
      ∨ ∃ a b : Nat, a ≤ x.shieldLeft ∧ b ≤ x.recoveryLeft ∧ x.countDown = { x with shieldLeft := a, recoveryLeft := b } := by
  have hless : (if x.shieldsNext then x.shieldLeft - 1 else x.shieldLeft) ≤ x.shieldLeft := by
    split <;> omega
  unfold Compartment.countDown
  dsimp only
  split
  · split
    · exact .inl rfl
    · exact .inr ⟨_, _, hless, Nat.sub_le _ _, rfl⟩
  · exact .inr ⟨_, x.recoveryLeft, hless, le_rfl, rfl⟩

theorem CompRight.form {x : Compartment} (h : CompRight x) (ha : x.active = true) (sim air : Option Int) (span : Nat)
    (now : RouteTime) : CompRight (x.form sim air span now) := by
  obtain ⟨hshield, hrecovery, hs, hr, hd, -⟩ := h
  have hoff : ∀ {P : Prop}, x.settings.active = false → P := fun h => by
    rw [Compartment.active, h] at ha
    cases ha
  unfold Compartment.form
  dsimp only
  rcases countDown_cases x with hx | ⟨a, b, hle, hle', hx⟩ <;> rw [hx]
  · exact ⟨Nat.zero_le _, Nat.zero_le _, fun h => absurd h (Nat.lt_irrefl 0), fun h => absurd h (Nat.lt_irrefl 0), hd,
      hoff⟩
  · exact ⟨hle.trans hshield, hle'.trans hrecovery, fun h => hs (Nat.lt_of_lt_of_le h hle),
      fun h => hr (Nat.lt_of_lt_of_le h hle'), hd, hoff⟩

/-- A change of the door alone, of a compartment that is ACTIVE or has no deadline after it. -/
theorem CompRight.setDoor {x : Compartment} (h : CompRight x) {b : Bool} {n : Half} {d : Option RouteTime}
    (hd : d.isSome = true → b = true) (hoff : x.settings.active = false → b = false) :
    CompRight { x with doorOpen := b, openings := n, doorDeadline := d } := by
  obtain ⟨hshield, hrecovery, hs, hr, -, hform⟩ := h
  refine ⟨hshield, hrecovery, hs, hr, hd, fun ha => ?_⟩
  obtain ⟨-, h2, h3, h4, h5, -, h7, h8⟩ := hform ha
  refine ⟨hoff ha, h2, h3, h4, h5, ?_, h7, h8⟩
  cases d with
  | none => rfl
  | some t =>
    have hb := hoff ha
    rw [hd rfl] at hb
    cases hb

/-- The relations of R35 in a compartment, with the snapshot present exactly while it is ACTIVE. -/
def CompHeld (x : Compartment) : Prop := CompRight x ∧ x.snapshot.isSome = x.active

theorem active_false_of {x : Compartment} (ha : x.active = true) (h : x.settings.active = false) : False := by
  rw [Compartment.active, h] at ha
  cases ha

/-- One change of a compartment keeps its relations; without main power the snapshots are not asked for. -/
theorem CompChange.compRight {s : State} {c : CompNo} {x : Compartment} (h : CompChange s c x)
    (hs : CompRight s.comps[c]) : CompRight x := by
  cases h with
  | same => exact hs
  | stored hv =>
    unfold Compartment.store
    split
    · exact hs.restore hv
    · exact activate_right _ (v := (settingsField _).clamped) hv _ _ _
  | switchedOff => exact switchOff_right _ _
  | defrostStarted ha => exact hs.startDefrost ha
  | defrostEnded ha => exact hs.endDefrost ha
  | shifted d =>
    obtain ⟨h1, h2, h3, h4, h5, h6⟩ := hs
    refine ⟨h1, h2, h3, h4, fun h => h5 (by simpa using h), fun ha => ?_⟩
    obtain ⟨k1, k2, k3, k4, k5, k6, k7, k8⟩ := h6 ha
    exact ⟨k1, k2, k3, k4, k5, Option.map_eq_none_iff.mpr k6, k7, k8⟩
  | opened ha => exact hs.setDoor (fun _ => rfl) fun h => (active_false_of ha h).elim
  | shut ha => exact hs.setDoor nofun fun _ => rfl
  | reported =>
    obtain ⟨h1, h2, h3, h4, h5, h6⟩ := hs
    refine ⟨h1, h2, h3, h4, nofun, fun ha => ?_⟩
    obtain ⟨k1, k2, k3, k4, k5, -, k7, k8⟩ := h6 ha
    exact ⟨k1, k2, k3, k4, k5, rfl, k7, k8⟩
  | formed ha => exact hs.form ha _ _ _ _

theorem startDefrost_kept (x : Compartment) :
    x.startDefrost.snapshot = x.snapshot ∧ x.startDefrost.settings = x.settings ∧ x.startDefrost.held = x.held
      ∧ x.startDefrost.ceilingInForce = x.ceilingInForce := by
  unfold Compartment.startDefrost
  split <;> exact ⟨rfl, rfl, rfl, rfl⟩

theorem endDefrost_kept (x : Compartment) :
    x.endDefrost.snapshot = x.snapshot ∧ x.endDefrost.settings = x.settings ∧ x.endDefrost.held = x.held
      ∧ x.endDefrost.ceilingInForce = x.ceilingInForce := by
  unfold Compartment.endDefrost
  split
  · exact ⟨rfl, rfl, rfl, rfl⟩
  · split <;> exact ⟨rfl, rfl, rfl, rfl⟩
  · exact ⟨rfl, rfl, rfl, rfl⟩

theorem restore_kept (x : Compartment) (v : Settings) :
    (x.restore v).snapshot = x.snapshot ∧ (x.restore v).settings = v ∧ (x.restore v).held = x.held
      ∧ (x.restore v).ceilingInForce = x.ceilingInForce := by
  unfold Compartment.restore
  dsimp only
  split <;> exact ⟨rfl, rfl, rfl, rfl⟩

theorem countDown_settings (x : Compartment) : x.countDown.settings = x.settings := by
  rcases countDown_cases x with h | ⟨a, b, -, -, h⟩ <;> rw [h]

/-- The snapshot stays present exactly while the compartment is ACTIVE, when every switching off carries mode OFF. -/
theorem CompChange.snapshot_active {s : State} {c : CompNo} {x : Compartment} (h : CompChange s c x)
    (hs : s.comps[c].snapshot.isSome = s.comps[c].active) (hoff : OffCommandsRight s) : x.snapshot.isSome = x.active := by
  cases h with
  | same | shifted | opened | shut | reported => exact hs
  | stored hv =>
    unfold Compartment.store
    split
    · rename_i hactive
      obtain ⟨hsnap, hset, -, -⟩ := restore_kept s.comps[c] (Settings.clamped (settingsField _))
      rw [hsnap, hs, hactive, Compartment.active, hset]
      exact hv.symm
    · exact hv.symm
  | switchedOff hst hw hocc =>
    obtain ⟨-, hengine⟩ := hoff
    obtain ⟨hv, -, -⟩ := hengine _ _ _ _ hst hw
    exact hv.symm
  | defrostStarted ha =>
    obtain ⟨hsnap, hset, -, -⟩ := startDefrost_kept s.comps[c]
    rw [hsnap, Compartment.active, hset]
    exact hs
  | defrostEnded ha =>
    obtain ⟨hsnap, hset, -, -⟩ := endDefrost_kept s.comps[c]
    rw [hsnap, Compartment.active, hset]
    exact hs
  | formed ha =>
    have hset := countDown_settings s.comps[c]
    show true = s.comps[c].countDown.settings.active
    rw [hset]
    exact ha.symm

theorem CompStarted.held {s : State} {c : CompNo} {x : Compartment} (h : CompStarted s c x) : CompHeld x := by
  cases h with
  | resumed =>
    unfold Compartment.resume
    dsimp only
    split
    · rename_i ha
      refine ⟨⟨Nat.zero_le _, Nat.zero_le _, fun h => absurd h (Nat.lt_irrefl 0), fun h => absurd h (Nat.lt_irrefl 0),
        fun h => ?_, fun h => (active_false_of ha h).elim⟩, ha.symm⟩
      cases hline : s.doorLines[c]
      · rw [hline] at h
        cases h
      · rfl
    · rename_i ha
      refine ⟨switchOff_right _ _, ?_⟩
      exact (Bool.eq_false_of_not_eq_true ha).symm
  | initial => exact ⟨switchOff_right .initial .initial, rfl⟩

theorem CompRight.off_lastGood {x : Compartment} (h : CompRight x) (ha : x.settings.active = false) : x.lastGood = none := by
  obtain ⟨-, -, -, -, -, h6⟩ := h
  obtain ⟨-, -, -, -, -, -, h7, -⟩ := h6 ha
  exact h7

theorem Changed.compsRight {c : Instr} {s t : State} (h : Changed c s t) (hs : CompsRight s) (hoff : OffCommandsRight s) :
    CompsRight t := by
  intro c
  obtain ⟨hright, hsnap⟩ := hs c
  cases h.comps with
  | kept hp h => exact ⟨(h c).compRight hright, fun ht => (h c).snapshot_active (hsnap (hp ▸ ht)) hoff⟩
  | darkened hp h =>
    obtain ⟨y, hy, h⟩ := h c
    have hyr : CompRight y := hy.elim (·.compRight hright) (·.held.1)
    refine ⟨?_, fun ht => ?_⟩
    · rw [h]
      exact .dark hyr.off_lastGood
    · rw [hp] at ht
      cases ht
  | started h => exact ⟨(h c).held.1, fun _ => (h c).held.2⟩

/-! ### Ranges (sections 3.1 and 4.2, R130) -/

/-- A compartment's settings, held count, ceiling in force and span within their ranges. -/
def CompRanges (x : Compartment) : Prop :=
  SettingsRight x.settings ∧ x.held ≤ 15 ∧ TempRight x.ceilingInForce
    ∧ ∀ n : Snapshot, x.snapshot = some n → SpanRight n.span

theorem clamped_right {v : Settings} (hs : v.shieldBase ≤ 255) (hr : v.recoveryLength ≤ 255) : SettingsRight v.clamped :=
  ⟨(clampInt_range (by decide) _).1, (clampInt_range (by decide) _).2, (clampNat_range (by decide) _).2,
    (clampNat_range (by decide) _).1, (clampNat_range (by decide) _).2, clampTemp_right _, hs, hr⟩

theorem settingsField_right (bytes : List Byte) : SettingsRight (settingsField bytes).clamped :=
  clamped_right (Nat.le_of_lt_succ (natAt_lt 9 1 bytes)) (Nat.le_of_lt_succ (natAt_lt 10 1 bytes))

theorem SettingsRight.ceiling {v : Settings} (h : SettingsRight v) : TempRight v.ceiling := by
  obtain ⟨-, -, -, -, -, h, -, -⟩ := h
  exact h

theorem SettingsRight.holdLimit {v : Settings} (h : SettingsRight v) : v.holdLimit ≤ 15 := by
  obtain ⟨-, -, h, -, -, -, -, -⟩ := h
  exact h

theorem spanRight_of_period {n : Nat} (h : PeriodRight n) : SpanRight n := ⟨h.1, h.2.trans (by decide)⟩

theorem select_held (x : Compartment) (sim air : Option Int) :
    (x.select sim air).2.2 ≤ max x.held x.settings.holdLimit := by
  unfold Compartment.select
  split
  · exact Nat.zero_le _
  · split
    · exact Nat.zero_le _
    · split
      · split
        · rename_i h
          exact Nat.le_trans h (le_max_right _ _)
        · exact le_max_left _ _
      · exact le_max_left _ _

theorem CompChange.ranges {s : State} {c : CompNo} {x : Compartment} (h : CompChange s c x) (hs : RangesRight s)
    (hoff : OffCommandsRight s) : CompRanges x := by
  obtain ⟨hcomps, hscanner, -, -⟩ := hs
  obtain ⟨hsettings, hheld, hceiling, hspan⟩ := hcomps c
  cases h with
  | same | shifted | opened | shut | reported => exact ⟨hsettings, hheld, hceiling, hspan⟩
  | @stored bytes _ =>
    have hv := settingsField_right bytes
    unfold Compartment.store
    split
    · obtain ⟨h1, h2, h3, h4⟩ := restore_kept s.comps[c] (settingsField bytes).clamped
      unfold CompRanges
      rw [h1, h2, h3, h4]
      exact ⟨hv, hheld, hceiling, hspan⟩
    · refine ⟨hv, Nat.zero_le _, hv.ceiling, ?_⟩
      rintro n ⟨⟩
      obtain ⟨hperiod, -⟩ := hscanner
      exact spanRight_of_period hperiod
  | switchedOff hst hw hocc =>
    obtain ⟨-, hengine⟩ := hoff
    obtain ⟨-, h1, h2⟩ := hengine _ _ _ _ hst hw
    exact ⟨clamped_right h1 h2, Nat.zero_le _, hceiling, nofun⟩
  | defrostStarted =>
    obtain ⟨h1, h2, h3, h4⟩ := startDefrost_kept s.comps[c]
    unfold CompRanges
    rw [h1, h2, h3, h4]
    exact ⟨hsettings, hheld, hceiling, hspan⟩
  | defrostEnded =>
    obtain ⟨h1, h2, h3, h4⟩ := endDefrost_kept s.comps[c]
    unfold CompRanges
    rw [h1, h2, h3, h4]
    exact ⟨hsettings, hheld, hceiling, hspan⟩
  | formed _ _ _ hspan' =>
    refine ⟨?_, (select_held _ _ _).trans (Nat.max_le.mpr ⟨hheld, hsettings.holdLimit⟩), hsettings.ceiling, ?_⟩
    · show SettingsRight s.comps[c].countDown.settings
      rw [countDown_settings]
      exact hsettings
    · rintro n ⟨⟩
      exact hspan' hscanner

theorem initial_ranges : CompRanges .initial :=
  ⟨⟨by decide, by decide, by decide, by decide, by decide, ⟨by decide, by decide⟩, by decide, by decide⟩,
    by decide, ⟨by decide, by decide⟩, nofun⟩

theorem CompStarted.ranges {s : State} {c : CompNo} {x : Compartment} (h : CompStarted s c x) (hs : RangesRight s) :
    CompRanges x := by
  obtain ⟨hcomps, hscanner, -, -⟩ := hs
  obtain ⟨hsettings, hheld, hceiling, hspan⟩ := hcomps c
  cases h with
  | resumed =>
    unfold Compartment.resume
    dsimp only
    split
    · refine ⟨hsettings, Nat.zero_le _, hsettings.ceiling, ?_⟩
      rintro n ⟨⟩
      obtain ⟨hperiod, -⟩ := hscanner
      exact spanRight_of_period hperiod
    · exact ⟨hsettings, Nat.zero_le _, hsettings.ceiling, nofun⟩
  | initial => exact initial_ranges

theorem CompRanges.dark {x : Compartment} (h : CompRanges x) : CompRanges x.dark :=
  ⟨h.1, Nat.zero_le _, h.2.2.1, nofun⟩

theorem Changed.compRanges {c : Instr} {s t : State} (h : Changed c s t) (hs : RangesRight s) (hoff : OffCommandsRight s)
    (k : CompNo) : CompRanges t.comps[k] := by
  cases h.comps with
  | kept _ h => exact (h k).ranges hs hoff
  | darkened _ h =>
    obtain ⟨y, hy, h⟩ := h k
    rw [h]
    exact (hy.elim (·.ranges hs hoff) (·.ranges hs)).dark
  | started h => exact (h k).ranges hs

/-! ### The scanner (section 4.2) -/

/-- The period in force and the lag, with the scan period, within their ranges. -/
def ScheduleRight (x : Scanner) : Prop := PeriodRight x.period ∧ PeriodRight x.periodInForce ∧ x.lag ≤ 1000

theorem ScannerRight.schedule {x : Scanner} (h : ScannerRight x) : ScheduleRight x := by
  obtain ⟨h1, h2, h3, -⟩ := h
  exact ⟨h1, h2, h3⟩

theorem ScheduleRight.idle {x : Scanner} (h : ScheduleRight x) (hp : x.phase = .idle) (hs : x.span = none) :
    ScannerRight x := by
  obtain ⟨h1, h2, h3⟩ := h
  refine ⟨h1, h2, h3, ?_, fun n hn => ?_⟩
  · rw [hp, hs]
    simp
  · rw [hs] at hn
    cases hn

theorem formIfPolled_scannerRight {u : State} (h : ScannerRight u.scanner) (hp : u.scanner.phase ≠ .idle) :
    ScannerRight u.formIfPolled.scanner := by
  unfold State.formIfPolled
  split
  · obtain ⟨h1, h2, h3, h4, h5⟩ := h
    exact ⟨h1, h2, h3, iff_of_true (h4.mpr hp) nofun, h5⟩
  · exact h

theorem startScan_scannerRight {u : State} (h : ScheduleRight u.scanner) : ScannerRight u.startScan.scanner := by
  obtain ⟨h1, h2, h3⟩ := h
  unfold State.startScan
  refine formIfPolled_scannerRight ⟨h1, h2, Nat.zero_le _, iff_of_true rfl nofun, ?_⟩ nofun
  rintro n ⟨⟩
  exact spanRight_of_scanner (x := { u.scanner with phase := .idle, span := none })
    (ScheduleRight.idle ⟨h1, h2, h3⟩ rfl rfl)

theorem accrualAdvance_scannerRight {u : State} (h : ScannerRight u.scanner) : ScannerRight u.accrualAdvance.scanner := by
  unfold State.accrualAdvance
  split
  · exact h
  · unfold State.passEnded
    split
    · exact startScan_scannerRight h.schedule
    · exact ScheduleRight.idle h.schedule rfl rfl

theorem gapAdvance_scannerRight {u : State} (h : ScannerRight u.scanner) : ScannerRight u.gapAdvance.scanner := by
  unfold State.gapAdvance
  split <;> exact h

theorem Finished.scannerRight {st : StepInProgress} {u t : State} (h : Finished st u t) (hu : ScannerRight u.scanner) :
    ScannerRight t.scanner := by
  cases h with
  | port _ h => rw [h.scanner]; exact hu
  | accrual _ h => exact accrualAdvance_scannerRight (by rw [h.scanner]; exact hu)
  | gap _ h => exact gapAdvance_scannerRight (by rw [h.scanner]; exact hu)

theorem ScannerRight.dark {x : Scanner} (h : PeriodRight x.period) : ScannerRight x.dark :=
  ScheduleRight.idle ⟨h, h, Nat.zero_le _⟩ rfl rfl

theorem clampPeriod_right (b : Byte) : PeriodRight (clampPeriod b) := clampNat_range (by decide) _

theorem defaultPeriod_right : PeriodRight Config.defaultPeriod := ⟨by decide, by decide⟩

theorem Changed.scannerRight {c : Instr} {s t : State} (h : Changed c s t) (hs : ScannerRight s.scanner) :
    ScannerRight t.scanner := by
  have hs' := hs
  obtain ⟨hperiod, hforce, hlag, hspan, hright⟩ := hs'
  cases h with
  | outer h => rw [h.scanner]; exact hs
  | discarded h => rw [h.scanner]; exact hs
  | granted _ _ _ _ h => rw [h.scanner]; exact hs
  | ended _ hst hwork h => exact h.scannerRight (by rw [hwork.sameOutside.scanner]; exact hs)
  | stored _ _ h => rw [h.scanner]; exact hs
  | defrosted _ _ h => rw [h.scanner]; exact hs
  | periodSet h =>
    rw [h.scanner]
    exact ⟨clampPeriod_right _, hforce, hlag, hspan, hright⟩
  | timeoutSet h => rw [h.scanner]; exact hs
  | clockSet _ h => rw [h.scanner]; exact ⟨hperiod, hforce, hlag, hspan, hright⟩
  | second _ => exact hs
  | lineSet k b => exact hs
  | doorOpened _ => exact hs
  | doorShut _ => exact hs
  | doorLong h => rw [h.scanner]; exact hs
  | ticked => exact startScan_scannerRight ⟨hperiod, hperiod, hlag⟩
  | missed => exact ⟨hperiod, hperiod, Nat.min_le_left _ _, hspan, hright⟩
  | @polled n rest o _ hphase =>
    obtain ⟨-, -, hscanner⟩ := recordOutcome_kept s n o
    unfold State.endPoll
    refine formIfPolled_scannerRight (u := { s.recordOutcome n o with
      scanner := { (s.recordOutcome n o).scanner with toPoll := rest } }) ?_ ?_
    · rw [hscanner]
      exact ⟨hperiod, hforce, hlag, hspan, hright⟩
    · show (s.recordOutcome n o).scanner.phase ≠ .idle
      rw [hscanner, hphase]
      nofun
  | powerLost _ hu =>
    refine ScannerRight.dark ?_
    rcases hu with rfl | ⟨st, hst, hwork⟩
    · exact hperiod
    · show PeriodRight (State.scanner _).period
      rw [hwork.sameOutside.scanner]
      exact hperiod
  | resumed => exact ScannerRight.dark (x := s.scanner) hperiod
  | blankStarted => exact ScheduleRight.idle ⟨defaultPeriod_right, defaultPeriod_right, Nat.zero_le _⟩ rfl rfl
  | resumeCut => exact ScannerRight.dark (x := s.scanner) hperiod
  | blankCut =>
    exact ScannerRight.dark (x := { s.scanner with period := Config.defaultPeriod, tag := 0 }) defaultPeriod_right
  | unmarked => exact hs

/-! ### The offer timeout and the step in progress -/

theorem Outer.offerTimeout {s t : State} (h : Outer s t) : t.offerTimeout = s.offerTimeout := by
  obtain ⟨_, _, _, _, rfl⟩ := h
  rfl

theorem Scanned.offerTimeout {s t : State} (h : Scanned s t) : t.offerTimeout = s.offerTimeout := by
  obtain ⟨_, _, _, _, _, _, _, _, _, rfl⟩ := h
  rfl

theorem Finished.offerTimeout {st : StepInProgress} {u t : State} (h : Finished st u t) :
    t.offerTimeout = u.offerTimeout := by
  obtain ⟨v, hv, ht⟩ := h.scanned
  rw [ht.offerTimeout, hv.offerTimeout]
  rfl

theorem clampTimeout_right (n : Nat) : TimeoutRight (clampTimeout n) := clampNat_range (by decide) _

theorem defaultTimeout_right : TimeoutRight Config.defaultTimeout := ⟨by decide, by decide⟩

theorem Changed.timeoutRight {c : Instr} {s t : State} (h : Changed c s t) (hs : TimeoutRight s.offerTimeout) :
    TimeoutRight t.offerTimeout := by
  cases h with
  | outer h => rw [h.offerTimeout]; exact hs
  | discarded h => rw [h.offerTimeout]; exact hs
  | granted _ _ _ _ h => rw [h.offerTimeout]; exact hs
  | ended _ hst hwork h => rw [h.offerTimeout, hwork.sameOutside.offerTimeout]; exact hs
  | stored _ _ h => rw [h.offerTimeout]; exact hs
  | defrosted _ _ h => rw [h.offerTimeout]; exact hs
  | periodSet h => rw [h.offerTimeout]; exact hs
  | timeoutSet h => rw [h.offerTimeout]; exact clampTimeout_right _
  | clockSet _ h => rw [h.offerTimeout]; exact hs
  | second _ => exact hs
  | lineSet k b => exact hs
  | doorOpened _ => exact hs
  | doorShut _ => exact hs
  | doorLong h => rw [h.offerTimeout]; exact hs
  | ticked => rw [(Scanned.startScan _).offerTimeout]; exact hs
  | missed => exact hs
  | polled => rw [(Scanned.endPoll _ _ _ _).offerTimeout]; exact hs
  | powerLost _ hu =>
    rcases hu with rfl | ⟨st, hst, hwork⟩
    · exact hs
    · show TimeoutRight (State.offerTimeout _)
      rw [hwork.sameOutside.offerTimeout]
      exact hs
  | resumed => exact hs
  | blankStarted => exact defaultTimeout_right
  | resumeCut => exact hs
  | blankCut => exact defaultTimeout_right
  | unmarked => exact hs

theorem Changed.rangesRight {c : Instr} {s t : State} (h : Changed c s t) (hs : RangesRight s)
    (hoff : OffCommandsRight s) : RangesRight t := by
  have hs' := hs
  obtain ⟨-, hscanner, htimeout, hinputs⟩ := hs'
  have hscanner' := h.scannerRight hscanner
  have htimeout' := h.timeoutRight htimeout
  refine ⟨fun k => h.compRanges hs hoff k, hscanner', htimeout', fun st hst => ?_⟩
  cases h.engine with
  | same he => exact hinputs st (he ▸ hst)
  | none he => rw [he] at hst; cases hst
  | discarded st' hst' he =>
    rw [he] at hst
    cases hst
    exact hinputs st' hst'
  | begun w he =>
    rw [he] at hst
    cases hst
    obtain ⟨hperiod, -⟩ := hscanner'
    exact ⟨hperiod, htimeout'⟩

/-! ### The copies of a CLOSED record (R137) -/

/-- A CLOSED record's copied limits and scan period within their ranges. -/
def CopyRight (r : Record) : Prop :=
  ∀ f : ClosedFields, r.custody = .closed f → LimitsRight f.limits ∧ PeriodRight f.scanPeriod

theorem copyRight_of_live {r : Record} {l : LiveFields} (h : r.live = some l) : CopyRight r := by
  intro f hf
  rw [Record.live, hf] at h
  cases h

theorem ClassRight.copy {k : ClassLimits} (h : ClassRight k) : LimitsRight k.copy := by
  obtain ⟨h1, h2, -, h4, h5, h6, -⟩ := h
  refine ⟨h1, h2, fun l hl => ?_, h5, h6⟩
  obtain ⟨hlower, hfloor, -⟩ := h4 l hl
  exact ⟨hlower, hfloor⟩

theorem Written.copyRight {st : StepInProgress} {s : State} {i : SlotNo} {q : Record} (hst : s.engine = some st)
    (hs : ∀ (i : SlotNo) (r : Record), s.slots[i] = some r → CopyRight r) (hclasses : ClassesRight s)
    (hranges : RangesRight s) (h : Written st s i (some q)) : CopyRight q := by
  cases h with
  | admitted _ _ _ _ _ hr =>
    rcases hr with ⟨id, rfl⟩ | ⟨b, rfl⟩
    · exact copyRight_of_live rfl
    · intro f hf
      unfold carriedRecord at hf
      dsimp only at hf
      rw [judgeCarried_custody] at hf
      cases hf
  | moved hr hl =>
    rw [moveTo_eq hl]
    exact copyRight_of_live rfl
  | offered hr hl => exact copyRight_of_live rfl
  | offerEnded hr hl _ => exact copyRight_of_live rfl
  | closed hr hl hunit hk =>
    rintro f ⟨⟩
    obtain ⟨-, -, -, hinputs⟩ := hranges
    exact ⟨(hclasses _ _ hk).copy, (hinputs st hst).1⟩
  | statementRead hr hf =>
    rintro f' ⟨⟩
    have hread := hs _ _ hr _ hf
    exact hread
  | charged hg hr hl hk hn htag => exact copyRight_of_live ((charge_charged hl _ _ _ _).live hl)
  | gapCharged hw hr hl hk => exact copyRight_of_live ((chargeGap_charged hl _ _ _).live hl)

theorem CopyRight.shift {r : Record} (h : CopyRight r) (d : BitVec 32) : CopyRight (r.shift d) := by
  unfold Record.shift
  split
  · exact h
  · exact copyRight_of_live rfl
  · exact h

theorem Changed.closedLimitsRight {c : Instr} {s t : State} (h : Changed c s t) (hs : ClosedLimitsRight s)
    (hclasses : ClassesRight s) (hranges : RangesRight s) : ClosedLimitsRight t := fun i r f hr =>
  h.keepsRecords (P := CopyRight) (fun i r hr f => hs i r f hr) (fun _ d hr => hr.shift d)
    (fun _ _ _ hst hw => hw.copyRight hst (fun i r hr f => hs i r f hr) hclasses hranges) i r hr f

/-! ### SET COMPARTMENT with mode OFF in flight (R49, R50) -/

/-- The commands in flight of a state all switch off right. -/
def FlightsRight (s : State) : Prop :=
  ∀ (p : PortId) (cmd : PortCommand), (s.port p).phase.inFlight = some cmd → cmd.offRight

theorem FlightsRight.setPhase {s : State} (hs : FlightsRight s) {p : PortId} {ph : PortPhase}
    (h : ∀ cmd : PortCommand, ph.inFlight = some cmd → cmd.offRight) : FlightsRight (s.setPhase p ph) := by
  intro q cmd hq
  rw [setPhase_phase] at hq
  split at hq
  · exact h cmd hq
  · exact hs q cmd hq

theorem FlightsRight.of_phase {s t : State} (hs : FlightsRight s) (h : ∀ p, (t.port p).phase = (s.port p).phase) :
    FlightsRight t := fun p cmd hp => hs p cmd (h p ▸ hp)

/-- Two states with the same ports. -/
theorem FlightsRight.of_ports {s t : State} (hs : FlightsRight s) (hunit : t.unitPort = s.unitPort)
    (hdock : t.dockPort = s.dockPort) : FlightsRight t := by
  refine hs.of_phase ?_
  rintro (_ | _)
  · exact congrArg Port.phase hunit
  · exact congrArg Port.phase hdock

theorem moveAll_offRight : PortCommand.moveAll.offRight := nofun

theorem result_flights {r : Result} : ∀ cmd : PortCommand, (PortPhase.result r).inFlight = some cmd → cmd.offRight :=
  fun _ h => nomatch h

theorem FlightsRight.endWalk {s : State} (hs : FlightsRight s) (r : Result) : FlightsRight (s.endWalk r) := by
  refine FlightsRight.setPhase ?_ result_flights
  exact hs.of_ports rfl rfl

theorem FlightsRight.continueWalk {s : State} (hs : FlightsRight s) (m : MoveAllRecord) :
    FlightsRight (s.continueWalk m) := by
  refine FlightsRight.setPhase ?_ ?_
  · exact hs.of_ports rfl rfl
  · rintro _ ⟨⟩
    exact moveAll_offRight

theorem open_phase (s : State) (p q : PortId) (b : Byte) (c : Capture) (l : List Byte) :
    ((s.open p b c l).port q).phase = (s.port q).phase := by
  unfold State.open
  by_cases hq : q = p
  · rw [hq, State.setPort_port]
  · rw [State.setPort_port_ne _ _ hq]

theorem Phased.flightsRight {s t : State} (h : Phased s t) (hs : FlightsRight s) : FlightsRight t := by
  have hquiet : ∀ {a b : State}, Quiet a b → FlightsRight a → FlightsRight b := fun hq ha => ha.of_phase hq.phase
  have hworking : ∀ {p : PortId} {cmd : PortCommand}, (s.port p).phase = .waiting cmd →
      ∀ cmd' : PortCommand, (PortPhase.working cmd).inFlight = some cmd' → cmd'.offRight := by
    rintro p cmd hph _ ⟨⟩
    exact hs p cmd (by rw [hph]; rfl)
  cases h with
  | quiet h => exact hquiet h hs
  | resultRead => exact hs.of_phase fun q => open_phase _ _ _ _ _ _
  | cancelRead _ =>
    refine FlightsRight.of_phase (s := { s with moveAll := s.moveAll.map MoveAllRecord.heldByCancel })
      (hs.of_ports rfl rfl) fun q => open_phase _ _ _ _ _ _
  | moved hq _ _ _ hoff => exact (hquiet hq hs).setPhase hoff
  | walkStarted hq =>
    refine FlightsRight.setPhase ?_ ?_
    · exact (hquiet hq hs).of_ports rfl rfl
    · rintro _ ⟨⟩
      exact moveAll_offRight
  | cancelled hq =>
    have hu := hquiet hq hs
    unfold State.cancelWalk
    split
    · split
      · exact hu.of_ports rfl rfl
      · exact hu.endWalk _
    · exact hu
  | released hq =>
    have hu := hquiet hq hs
    unfold State.releaseWalk
    split
    · split
      · exact hu.of_ports rfl rfl
      · exact hu.endWalk _
      · exact hu
      · exact hu
    · exact hu
  | @reset u p hq _ =>
    have hu := hquiet hq hs
    have hdrop : FlightsRight (u.dropCommand (u.port p).phase) := by
      unfold State.dropCommand State.dropMoveAll
      split
      · exact hu
      · split <;> exact hu.of_ports rfl rfl
      · split <;> exact hu.of_ports rfl rfl
      · exact hu
    intro q cmd hc
    unfold State.resetPort at hc
    by_cases hqp : q = p
    · rw [hqp, State.setPort_port] at hc
      cases hc
    · rw [State.setPort_port_ne _ _ hqp] at hc
      exact hdrop q cmd hc
  | granted _ hph _ =>
    refine FlightsRight.setPhase ?_ (hworking hph)
    exact hs.of_ports rfl rfl
  | slotGranted _ hph =>
    refine FlightsRight.setPhase ?_ (hworking hph)
    exact hs.of_ports rfl rfl
  | ownGranted => exact hs.of_ports rfl rfl
  | freed _ hq hq' _ => exact hquiet hq' (FlightsRight.of_ports (hquiet hq hs) rfl rfl)
  | placed _ _ _ hq =>
    refine FlightsRight.setPhase ?_ result_flights
    exact FlightsRight.of_ports (hquiet hq hs) rfl rfl
  | @slotEnded st m u a b i n e _ _ _ _ hq =>
    have hu : FlightsRight u.freeEngine := (hquiet hq hs).of_ports rfl rfl
    unfold State.settleWalk
    split
    · exact hu.endWalk _
    · exact hu.endWalk _
    · exact hu.continueWalk _
    · exact hu.continueWalk _
    · exact hu.continueWalk _
    · exact hu.continueWalk _
  | slotLost _ _ _ _ hq => exact FlightsRight.of_ports (hquiet hq hs) rfl rfl
  | restarted hphase =>
    intro p cmd hp
    rw [hphase] at hp
    cases hp

/-- The work of the step in progress after one command: none, the one before, a step of no port, or the command that the
port granted had waiting. -/
theorem Phased.work {s t : State} (h : Phased s t) {st : StepInProgress} {p : PortId} {cmd : PortCommand}
    (hst : t.engine = some st) (hw : st.work = .port p cmd) :
    (∃ st' : StepInProgress, s.engine = some st' ∧ st'.work = .port p cmd) ∨ (s.port p).phase = .waiting cmd := by
  have hkept : t.engine = s.engine →
      (∃ st' : StepInProgress, s.engine = some st' ∧ st'.work = .port p cmd) ∨ (s.port p).phase = .waiting cmd :=
    fun he => .inl ⟨st, he ▸ hst, hw⟩
  have hnone : ∀ {P : Prop}, t.engine = none → P := fun he => by rw [he] at hst; cases hst
  cases h with
  | quiet h => exact hkept h.engine
  | resultRead => exact hkept (Outer.opened _ _ _ _ _).engine
  | cancelRead _ => exact hkept (Outer.opened _ _ _ _ _).engine
  | moved hq => exact hkept ((Outer.setPhase _ _ _).engine.trans hq.engine)
  | walkStarted hq => exact hkept (((Outer.setMoveAll _ _).trans (Outer.acceptWaiting _ _ _)).engine.trans hq.engine)
  | cancelled hq => exact hkept ((Outer.cancelWalk _).engine.trans hq.engine)
  | released hq => exact hkept ((Outer.releaseWalk _).engine.trans hq.engine)
  | @reset u p' hq _ =>
    have he : u.engine = s.engine := hq.engine
    rw [State.resetPort, State.setPort_engine] at hst
    have hwork : (∃ st' : StepInProgress, u.engine = some st' ∧ st'.work = .port p cmd) := by
      unfold State.dropCommand State.dropMoveAll at hst
      split at hst
      · exact ⟨st, hst, hw⟩
      · split at hst <;> exact ⟨st, hst, hw⟩
      · split at hst
        · obtain ⟨st', hst', rfl⟩ := Option.map_eq_some_iff.mp hst
          exact ⟨st', hst', hw⟩
        · obtain ⟨st', hst', rfl⟩ := Option.map_eq_some_iff.mp hst
          exact ⟨st', hst', hw⟩
      · exact ⟨st, hst, hw⟩
    exact .inl (he ▸ hwork)
  | granted hg hph _ =>
    rw [(Outer.setPhase _ _ _).engine] at hst
    cases hst
    cases hw
    exact .inr hph
  | slotGranted =>
    rw [(Outer.setPhase _ _ _).engine] at hst
    cases hst
    cases hw
  | ownGranted _ hf =>
    cases hst
    cases hw
    cases hf
  | freed _ _ hq' _ => exact hnone hq'.engine
  | placed _ _ _ hq => exact hnone (Outer.place _ _ _).engine
  | slotEnded _ _ _ _ hq => exact hnone (Outer.settleWalk _ _ _ _).engine
  | slotLost _ _ _ _ hq => exact hnone rfl
  | restarted _ _ _ _ he =>
    have hf := (he st hst).1
    rw [hw] at hf
    cases hf

theorem Phased.offCommandsRight {s t : State} (h : Phased s t) (hs : OffCommandsRight s) : OffCommandsRight t := by
  obtain ⟨hflights, hwork⟩ := hs
  have hflightsRight : FlightsRight s := by
    rintro p cmd hp c v rfl
    exact hflights p c v hp
  refine ⟨fun p c v hp => h.flightsRight hflightsRight p _ hp c v rfl, fun st p c v hst hw => ?_⟩
  rcases h.work hst hw with ⟨st', hst', hw'⟩ | hph
  · exact hwork st' p c v hst' hw'
  · exact hflights p c v (by rw [hph]; rfl)

/-- Settles O58, by what one command makes of the classes, of each compartment, of the scanner, and of the records. -/
theorem everyStepKeepsClassesAndCompartments : Obligations.EveryStepKeepsClassesAndCompartments := by
  intro s t hclasses hcomps hranges hoff hlimits hstep
  unfold step at hstep
  split at hstep
  · rename_i c rest _
    have hoff' : OffCommandsRight (s.withPending rest) := by
      refine ⟨fun p c v hp => hoff.1 p c v ?_, hoff.2⟩
      rw [State.withPending_port] at hp
      exact hp
    have h := exec_changed hstep
    exact ⟨h.classesRight hclasses, h.compsRight hcomps hoff', h.rangesRight hranges hoff',
      (exec_phased hstep).offCommandsRight hoff', h.closedLimitsRight hlimits hclasses hranges⟩
  · cases hstep
    exact ⟨hclasses, hcomps, hranges, hoff, hlimits⟩

end Sys2Proof.Machine
end

section
/-!
PROOFS. What one command can do to the Custody Table and what belongs to it, and the counts with the use of classes and
compartments (R8 to R10).
-/
namespace Sys2Proof.Machine

/-! ### The table after one command -/

/-- Two states with the same slots, counts, classes, queue and identity. -/
structure SameTable (u t : State) : Prop where
  slots : t.slots = u.slots
  useCount : t.useCount = u.useCount
  occupancy : t.occupancy = u.occupancy
  offers : t.offers = u.offers
  classes : t.classes = u.classes
  unitId : t.unitId = u.unitId

theorem SameTable.refl (s : State) : SameTable s s := ⟨rfl, rfl, rfl, rfl, rfl, rfl⟩

theorem SameTable.trans {s t u : State} (h : SameTable s t) (h' : SameTable t u) : SameTable s u :=
  ⟨h'.slots.trans h.slots, h'.useCount.trans h.useCount, h'.occupancy.trans h.occupancy, h'.offers.trans h.offers,
    h'.classes.trans h.classes, h'.unitId.trans h.unitId⟩

theorem Outer.sameTable {s t : State} (h : Outer s t) : SameTable s t := by
  obtain ⟨_, _, _, _, rfl⟩ := h
  exact ⟨rfl, rfl, rfl, rfl, rfl, rfl⟩

theorem Scanned.sameTable {s t : State} (h : Scanned s t) : SameTable s t := by
  obtain ⟨_, _, _, _, _, _, _, _, _, rfl⟩ := h
  exact ⟨rfl, rfl, rfl, rfl, rfl, rfl⟩

theorem Finished.sameTable {st : StepInProgress} {u t : State} (h : Finished st u t) : SameTable u t := by
  obtain ⟨v, hv, ht⟩ := h.scanned
  have hfree : SameTable u u.freeEngine := ⟨rfl, rfl, rfl, rfl, rfl, rfl⟩
  exact (hfree.trans hv.sameTable).trans ht.sameTable

/-- What one command makes of the table, with what becomes of the ACTIVE compartments and the step in progress. -/
inductive TableChanged (c : Instr) (s t : State) : Prop
  | same (h : SameTable s t) (hclock : t.clock = s.clock ∨ c = .routeClockSecond)
      (ha : ∀ c : CompNo, s.comps[c].active = true → t.comps[c].active = true)
  | worked {st : StepInProgress} {u : State} (hst : s.engine = some st) (hw : Worked st s u) (h : SameTable u t)
      (he : t.engine = none) (hclock : t.clock = s.clock) (ha : ∀ c : CompNo, t.comps[c].active = u.comps[c].active)
  | shifted (v : RouteTime) (h : SameTable (s.shiftClock v) t) (he : t.engine = none) (hclock : t.clock = v)
      (ha : ∀ c : CompNo, t.comps[c].active = s.comps[c].active)
  | emptied (h : SameTable State.reset t) (he : t.engine = none)

theorem form_active (x : Compartment) (sim air : Option Int) (span : Nat) (now : RouteTime) :
    (x.form sim air span now).active = x.active := by
  show x.countDown.settings.active = x.settings.active
  rw [countDown_settings]

theorem formIfPolled_active (s : State) (c : CompNo) : s.formIfPolled.comps[c].active = s.comps[c].active := by
  unfold State.formIfPolled
  split
  · have hget : s.formSnapshots.comps[c] = s.formedComp (s.scanner.span.getD 0) c := by
      simp [State.formSnapshots]
    rw [hget]
    unfold State.formedComp
    split
    · exact form_active _ _ _ _ _
    · rfl
  · rfl

theorem startScan_active (s : State) (c : CompNo) : s.startScan.comps[c].active = s.comps[c].active :=
  formIfPolled_active _ c

theorem accrualAdvance_active (s : State) (c : CompNo) : s.accrualAdvance.comps[c].active = s.comps[c].active := by
  unfold State.accrualAdvance
  split
  · rfl
  · unfold State.passEnded
    split
    · exact startScan_active _ c
    · rfl

theorem Finished.active {st : StepInProgress} {u t : State} (h : Finished st u t) (c : CompNo) :
    t.comps[c].active = u.comps[c].active := by
  cases h with
  | port _ h => rw [h.comps]; rfl
  | accrual _ h => rw [accrualAdvance_active, h.comps]; rfl
  | gap _ h => rw [gapAdvance_comps, h.comps]; rfl

theorem dark_active (x : Compartment) : x.dark.active = x.active := rfl

theorem powerDown_active (s : State) (c : CompNo) : s.powerDown.comps[c].active = s.comps[c].active := by
  rw [powerDown_comps, dark_active]

theorem resume_active (x : Compartment) (now : RouteTime) (line : Bool) (period : Nat) :
    (x.resume now line period).active = x.active := by
  unfold Compartment.resume
  dsimp only
  split <;> rfl

theorem store_settings (x : Compartment) (v : Settings) (now : RouteTime) (line : Bool) (period : Nat) :
    (x.store v now line period).settings = v := by
  unfold Compartment.store
  split
  · obtain ⟨-, hset, -, -⟩ := restore_kept x v
    exact hset
  · rfl

/-- One compartment replaced by one that is ACTIVE if it was. -/
theorem active_put {s : State} {k : CompNo} {x : Compartment} (hx : s.comps[k].active = true → x.active = true)
    (c : CompNo) (h : s.comps[c].active = true) : (put s.comps k x)[c].active = true := by
  rw [put_get]
  split
  · rename_i hk
    subst hk
    exact hx h
  · exact h

theorem TableChanged.of_outer {c : Instr} {s u t : State} (h : Outer u t) (hu : SameTable s u)
    (hclock : u.clock = s.clock)
    (ha : ∀ c : CompNo, s.comps[c].active = true → u.comps[c].active = true) : TableChanged c s t :=
  .same (hu.trans h.sameTable) (.inl (h.clock.trans hclock)) (by rw [h.comps]; exact ha)

theorem Scanned.clock {s t : State} (h : Scanned s t) : t.clock = s.clock := by
  obtain ⟨_, _, _, _, _, _, _, _, _, rfl⟩ := h
  rfl

theorem Finished.clock {st : StepInProgress} {u t : State} (h : Finished st u t) : t.clock = u.clock := by
  obtain ⟨v, hv, ht⟩ := h.scanned
  exact ht.clock.trans hv.clock

theorem Changed.table {c : Instr} {s t : State} (h : Changed c s t) : TableChanged c s t := by
  have hsame : SameTable s s := .refl s
  have hid : ∀ c : CompNo, s.comps[c].active = true → s.comps[c].active = true := fun _ => id
  cases h with
  | outer h => exact .of_outer h hsame rfl hid
  | discarded h => exact .of_outer h ⟨rfl, rfl, rfl, rfl, rfl, rfl⟩ rfl hid
  | granted _ _ _ _ h => exact .of_outer h ⟨rfl, rfl, rfl, rfl, rfl, rfl⟩ rfl hid
  | ended _ hst hwork h => exact .worked hst hwork h.sameTable h.engine (h.clock.trans hwork.sameOutside.clock) h.active
  | @stored _ k bytes _ ha h =>
    refine .of_outer h ⟨rfl, rfl, rfl, rfl, rfl, rfl⟩ rfl (active_put fun _ => ?_)
    exact (congrArg Settings.active (store_settings _ _ _ _ _)).trans ha
  | defrosted ha hf h =>
    refine .of_outer h ⟨rfl, rfl, rfl, rfl, rfl, rfl⟩ rfl (active_put fun hk => ?_)
    rcases hf with rfl | rfl
    · rw [Compartment.active, (startDefrost_kept _).2.1]
      exact hk
    · rw [Compartment.active, (endDefrost_kept _).2.1]
      exact hk
  | periodSet h => exact .of_outer h ⟨rfl, rfl, rfl, rfl, rfl, rfl⟩ rfl hid
  | timeoutSet h => exact .of_outer h ⟨rfl, rfl, rfl, rfl, rfl, rfl⟩ rfl hid
  | @clockSet _ v he h =>
    refine .shifted v h.sameTable (h.engine.trans he) h.clock fun c => ?_
    rw [h.comps, State.shiftClock_comps]
    simp [Compartment.active]
  | second hc => exact .same ⟨rfl, rfl, rfl, rfl, rfl, rfl⟩ (.inr hc) hid
  | lineSet k b => exact .same ⟨rfl, rfl, rfl, rfl, rfl, rfl⟩ (.inl rfl) hid
  | doorOpened _ => exact .same ⟨rfl, rfl, rfl, rfl, rfl, rfl⟩ (.inl rfl) (active_put id)
  | doorShut _ => exact .same ⟨rfl, rfl, rfl, rfl, rfl, rfl⟩ (.inl rfl) (active_put id)
  | doorLong h => exact .of_outer h ⟨rfl, rfl, rfl, rfl, rfl, rfl⟩ rfl (active_put id)
  | ticked =>
    refine .same (SameTable.trans ?_ (Scanned.startScan _).sameTable) (.inl (Scanned.startScan (s.takeTick _)).clock) fun c hc => ?_
    · exact ⟨rfl, rfl, rfl, rfl, rfl, rfl⟩
    · rw [startScan_active]
      exact hc
  | missed => exact .same ⟨rfl, rfl, rfl, rfl, rfl, rfl⟩ (.inl rfl) hid
  | @polled n rest o =>
    refine .same (Scanned.endPoll _ _ _ _).sameTable (.inl (Scanned.endPoll s _ _ _).clock) fun c hc => ?_
    unfold State.endPoll
    rw [formIfPolled_active]
    show ((s.recordOutcome n o).comps[c]).active = true
    simp only [(recordOutcome_kept s n o).1]
    exact hc
  | powerLost _ hu =>
    rcases hu with rfl | ⟨st, hst, hwork⟩
    · exact .same ⟨rfl, rfl, rfl, rfl, rfl, rfl⟩ (.inl rfl) fun c hc => by rw [powerDown_active]; exact hc
    · exact .worked hst hwork ⟨rfl, rfl, rfl, rfl, rfl, rfl⟩ rfl hwork.sameOutside.clock fun c => powerDown_active _ c
  | resumed =>
    refine .same ⟨rfl, rfl, rfl, rfl, rfl, rfl⟩ (.inl rfl) fun c hc => ?_
    rw [resumed_comps, resume_active]
    exact hc
  | blankStarted => exact .emptied ⟨rfl, rfl, rfl, rfl, rfl, rfl⟩ rfl
  | resumeCut _ hC =>
    refine .same ⟨rfl, rfl, rfl, rfl, rfl, rfl⟩ (.inl rfl) fun c hc => ?_
    rw [powerDown_active]
    rcases hC with rfl | rfl
    · exact hc
    · have hget : s.resumedComps[c] = s.comps[c].resume s.clock s.doorLines[c] s.scanner.period := by
        simp [State.resumedComps]
      rw [hget, resume_active]
      exact hc
  | blankCut => exact .emptied ⟨rfl, rfl, rfl, rfl, rfl, rfl⟩ rfl
  | unmarked => exact .same ⟨rfl, rfl, rfl, rfl, rfl, rfl⟩ (.inl rfl) hid

/-! ### Counting live records -/

/-- Whether a slot's record is live and satisfies a test. -/
def countedIn (f : Record → Bool) (x : Option Record) : Bool := x.any (fun r => r.live.isSome && f r)

theorem liveCount_eq (slots : Vector (Option Record) 128) (f : Record → Bool) :
    liveCount slots f = slotNumbers.countP (fun i => countedIn f slots[i]) := rfl

theorem countedIn_live {r : Record} {l : LiveFields} (h : r.live = some l) (f : Record → Bool) :
    countedIn f (some r) = f r := by
  simp [countedIn, h]

theorem countedIn_closed {r : Record} (h : r.live = none) (f : Record → Bool) : countedIn f (some r) = false := by
  simp [countedIn, h]

/-- A list's count after the test changes at one of its elements. -/
theorem countP_update {α : Type} [DecidableEq α] {l : List α} (hnd : l.Nodup) {i : α} (hi : i ∈ l) {p q : α → Bool}
    (h : ∀ j : α, j ≠ i → q j = p j) : l.countP q + (p i).toNat = l.countP p + (q i).toNat := by
  have hperm := List.perm_cons_erase hi
  rw [hperm.countP_eq, hperm.countP_eq, List.countP_cons, List.countP_cons]
  have hrest : (l.erase i).countP q = (l.erase i).countP p := by
    refine List.countP_congr fun j hj => ?_
    rw [h j ((hnd.mem_erase_iff.mp hj).1)]
  rw [hrest]
  cases p i <;> cases q i <;> simp

/-- The count after one slot is written. -/
theorem liveCount_put (slots : Vector (Option Record) 128) (i : SlotNo) (x : Option Record) (f : Record → Bool) :
    liveCount (put slots i x) f + (countedIn f slots[i]).toNat = liveCount slots f + (countedIn f x).toNat := by
  have hcount := countP_update (l := slotNumbers) (List.nodup_finRange 128) (List.mem_finRange i)
    (p := fun j => countedIn f slots[j]) (q := fun j => countedIn f (put slots i x)[j])
    fun j hj => by rw [put_ne _ _ hj.symm]
  rw [put_get, if_pos rfl] at hcount
  exact hcount

theorem liveCount_pos {slots : Vector (Option Record) 128} {i : SlotNo} {f : Record → Bool}
    (h : countedIn f slots[i] = true) : 0 < liveCount slots f :=
  List.countP_pos_iff.mpr ⟨i, List.mem_finRange i, h⟩

theorem liveCount_congr {slots slots' : Vector (Option Record) 128} {f : Record → Bool}
    (h : ∀ i : SlotNo, countedIn f slots'[i] = countedIn f slots[i]) : liveCount slots' f = liveCount slots f :=
  List.countP_congr fun i _ => by rw [← countedIn, ← countedIn, h i]

/-! ### Counts (R8, R9) -/

/-- The test of a class and the test of a compartment. -/
def ofClass (k : ClassNo) (r : Record) : Bool := r.cls == k
def ofComp (c : CompNo) (r : Record) : Bool := r.comp == c

theorem ofClass_toNat (k : ClassNo) (r : Record) : (ofClass k r).toNat = if r.cls = k then 1 else 0 := by
  unfold ofClass
  split
  · rename_i h
    rw [h, beq_self_eq_true]
    rfl
  · rename_i h
    rw [beq_eq_false_iff_ne.mpr h]
    rfl

theorem ofComp_toNat (c : CompNo) (r : Record) : (ofComp c r).toNat = if r.comp = c then 1 else 0 := by
  unfold ofComp
  split
  · rename_i h
    rw [h, beq_self_eq_true]
    rfl
  · rename_i h
    rw [beq_eq_false_iff_ne.mpr h]
    rfl

/-- Counts stay right when a slot is written and each count follows. -/
theorem countsRight_put {s t : State} (hs : CountsRight s) {i : SlotNo} {x : Option Record}
    (hslots : t.slots = put s.slots i x)
    (huse : ∀ k : ClassNo, t.useCount[k] + (countedIn (ofClass k) s.slots[i]).toNat
      = s.useCount[k] + (countedIn (ofClass k) x).toNat)
    (hocc : ∀ c : CompNo, t.occupancy[c] + (countedIn (ofComp c) s.slots[i]).toNat
      = s.occupancy[c] + (countedIn (ofComp c) x).toNat) : CountsRight t := by
  obtain ⟨hu, ho⟩ := hs
  constructor
  · intro k
    have hput := liveCount_put s.slots i x (ofClass k)
    have hk : s.useCount[k] = liveCount s.slots (ofClass k) := hu k
    have hcount := huse k
    show t.useCount[k] = liveCount t.slots (ofClass k)
    rw [hslots]
    omega
  · intro c
    have hput := liveCount_put s.slots i x (ofComp c)
    have hc : s.occupancy[c] = liveCount s.slots (ofComp c) := ho c
    have hcount := hocc c
    show t.occupancy[c] = liveCount t.slots (ofComp c)
    rw [hslots]
    omega

/-- A live record written over one of the same class and compartment leaves the counts right. -/
theorem countsRight_live {s t : State} (hs : CountsRight s) {i : SlotNo} {r q : Record} {l l' : LiveFields}
    (hr : s.slots[i] = some r) (hl : r.live = some l) (hslots : t.slots = put s.slots i (some q))
    (hl' : q.live = some l') (hcls : q.cls = r.cls) (hcomp : q.comp = r.comp) (huse : t.useCount = s.useCount)
    (hocc : t.occupancy = s.occupancy) : CountsRight t := by
  refine countsRight_put hs hslots (fun k => ?_) (fun c => ?_) <;>
    rw [hr, countedIn_live hl, countedIn_live hl']
  · rw [huse, ofClass, ofClass, hcls]
  · rw [hocc, ofComp, ofComp, hcomp]

/-- So does a write of no live record over none. -/
theorem countsRight_dead {s t : State} (hs : CountsRight s) {i : SlotNo} {r : Record} {x : Option Record}
    (hr : s.slots[i] = some r) (hl : r.live = none) (hx : ∀ f : Record → Bool, countedIn f x = false)
    (hslots : t.slots = put s.slots i x) (huse : t.useCount = s.useCount) (hocc : t.occupancy = s.occupancy) :
    CountsRight t := by
  refine countsRight_put hs hslots (fun k => ?_) (fun c => ?_) <;> rw [hr, countedIn_closed hl, hx]
  · rw [huse]
  · rw [hocc]

theorem CountsRight.of_sameTable {u t : State} (hu : CountsRight u) (h : SameTable u t) : CountsRight t := by
  obtain ⟨huse, hocc⟩ := hu
  unfold CountsRight
  rw [h.slots, h.useCount, h.occupancy]
  exact ⟨huse, hocc⟩

/-- A live record is counted. -/
theorem CountsRight.counted {s : State} (hs : CountsRight s) {i : SlotNo} {r : Record} {l : LiveFields}
    (hr : s.slots[i] = some r) (hl : r.live = some l) : 0 < s.useCount[r.cls] ∧ 0 < s.occupancy[r.comp] := by
  obtain ⟨huse, hocc⟩ := hs
  constructor
  · rw [huse]
    refine liveCount_pos (i := i) ?_
    rw [hr, countedIn_live hl]
    simp
  · rw [hocc]
    refine liveCount_pos (i := i) ?_
    rw [hr, countedIn_live hl]
    simp

/-- One live record taken out of the table, or no longer live, with the counts lowered. -/
theorem countsRight_out {s t : State} (hs : CountsRight s) {i : SlotNo} {r : Record} {l : LiveFields} {x : Option Record}
    (hr : s.slots[i] = some r) (hl : r.live = some l) (hx : ∀ f : Record → Bool, countedIn f x = false)
    (hslots : t.slots = put s.slots i x) (huse : t.useCount = put s.useCount r.cls (s.useCount[r.cls] - 1))
    (hocc : t.occupancy = put s.occupancy r.comp (s.occupancy[r.comp] - 1)) : CountsRight t := by
  obtain ⟨hu, ho⟩ := hs.counted hr hl
  refine countsRight_put hs hslots (fun k => ?_) (fun c => ?_) <;> rw [hr, countedIn_live hl, hx]
  · rw [huse, put_get, ofClass_toNat, Bool.toNat_false]
    split
    · rename_i hk
      subst hk
      omega
    · rfl
  · rw [hocc, put_get, ofComp_toNat, Bool.toNat_false]
    split
    · rename_i hc
      subst hc
      omega
    · rfl

theorem admitted_live {st : StepInProgress} {r : Record} {cls : ClassNo} {k : ClassLimits} {c : CompNo}
    (hr : (∃ id, r = freshRecord st.inputs id cls c) ∨ ∃ b, r = carriedRecord st.inputs b cls k c) :
    r.cls = cls ∧ r.comp = c ∧ ∃ n, r.live = some (newLive st.inputs c n) := by
  rcases hr with ⟨id, rfl⟩ | ⟨b, rfl⟩
  · exact ⟨rfl, rfl, 0, rfl⟩
  · obtain ⟨w, q, p, h⟩ := judgeCarried_judged (presentedVerdict (byteAt 2 b))
      (presentedCause (presentedVerdict (byteAt 2 b)) (byteAt 3 b)) (carriedTests k (carriedFigures st.inputs b cls c))
      (carriedFigures st.inputs b cls c)
    have he : carriedRecord st.inputs b cls k c = _ := h
    rw [he]
    exact ⟨rfl, rfl, natAt 62 2 b, rfl⟩

theorem aboard_live {r : Record} {l : LiveFields} (h : r.custody = .aboard l) : r.live = some l := by
  rw [Record.live, h]
  rfl

theorem offered_live {r : Record} {l : LiveFields} {d : RouteTime} (h : r.custody = .offered l d) :
    r.live = some l := by
  rw [Record.live, h]
  rfl

theorem closed_not_live {r : Record} {f : ClosedFields} (h : r.custody = .closed f) : r.live = none := by
  rw [Record.live, h]
  rfl

theorem countedIn_none (f : Record → Bool) : countedIn f none = false := rfl

/-- The counts after a step's work. -/
theorem Worked.countsRight {st : StepInProgress} {s u : State} (hs : CountsRight s) (h : Worked st s u) :
    CountsRight u := by
  cases h with
  | nothing => exact hs
  | admitted hfree hid hzero hk hc hr =>
    obtain ⟨-, -, n, hl⟩ := admitted_live hr
    rw [takeAboard_eq]
    refine countsRight_put hs rfl (fun k => ?_) (fun c => ?_) <;>
      rw [hfree, countedIn_live hl, countedIn_none]
    · show (put s.useCount _ _)[k] + 0 = _
      rw [put_get, ofClass_toNat]
      split
      · rename_i hk
        subst hk
        rfl
      · rfl
    · show (put s.occupancy _ _)[c] + 0 = _
      rw [put_get, ofComp_toNat]
      split
      · rename_i hc
        subst hc
        rfl
      · rfl
  | discarded hr hl => exact countsRight_out hs hr (aboard_live hl) countedIn_none rfl rfl rfl
  | @moved i r l b hr hl hb =>
    obtain ⟨-, ho⟩ := hs.counted hr (aboard_live hl)
    have hq : (r.moveTo st.inputs l b).custody = .aboard
        { l with
          doorStored := doorExposures st.inputs.comps[r.comp].openings l
          doorBase := st.inputs.comps[b].openings } := by
      rw [moveTo_eq hl]
    have hcls : (r.moveTo st.inputs l b).cls = r.cls := by rw [moveTo_eq hl]
    have hcomp : (r.moveTo st.inputs l b).comp = b := by rw [moveTo_eq hl]
    refine countsRight_put hs rfl (fun k => ?_) (fun c => ?_) <;>
      rw [hr, countedIn_live (aboard_live hl), countedIn_live (aboard_live hq)]
    · rw [ofClass, ofClass, hcls]
      rfl
    · rw [ofComp_toNat, ofComp_toNat, hcomp]
      show (put (put s.occupancy r.comp (s.occupancy[r.comp] - 1)) b
        ((put s.occupancy r.comp (s.occupancy[r.comp] - 1))[b] + 1))[c] + _ = _
      rw [put_get, put_get, put_get]
      by_cases hrc : r.comp = c
      · subst hrc
        rw [if_pos rfl, if_pos rfl]
        split
        · rw [if_pos (by rename_i hb; exact hb.symm)]
          omega
        · omega
      · rw [if_neg hrc, if_neg hrc]
        split
        · rename_i hbc
          subst hbc
          rw [if_neg hrc]
        · rfl
  | offered hr hl hroom => exact countsRight_live hs hr (aboard_live hl) rfl (offered_live rfl) rfl rfl rfl rfl
  | offerEnded hr hl _ => exact countsRight_live hs hr (offered_live hl) rfl (aboard_live rfl) rfl rfl rfl rfl
  | closed hr hl hunit hk => exact countsRight_out hs hr (offered_live hl) (fun f => countedIn_closed rfl f) rfl rfl rfl
  | statementRead hr hf =>
    exact countsRight_dead hs hr (closed_not_live hf) (fun f => countedIn_closed rfl f) rfl rfl rfl
  | retired hr hf => exact countsRight_dead hs hr (closed_not_live hf) countedIn_none rfl rfl rfl
  | classSet huse hv => exact hs
  | switchedOff hw hocc => exact hs
  | identitySet hempty => exact hs
  | charged hw hg hr hl hk hn htag =>
    have hq := charge_charged hl
    exact countsRight_live hs hr hl rfl ((hq _ _ _ _).live hl) (hq _ _ _ _).cls (hq _ _ _ _).comp rfl rfl
  | gapCharged hw hr hl hk =>
    have hq := chargeGap_charged hl
    exact countsRight_live hs hr hl rfl ((hq _ _ _).live hl) (hq _ _ _).cls (hq _ _ _).comp rfl rfl
  | exempted hw he => exact hs

theorem shift_counted (f : Record → Bool) (d : BitVec 32) {r : Record} (hf : f (r.shift d) = f r) :
    countedIn f (some (r.shift d)) = countedIn f (some r) := by
  have hlive : (r.shift d).live.isSome = r.live.isSome := by
    rw [Record.shift_eq]
    unfold Record.live Custody.shift
    cases r.custody <;> rfl
  simp [countedIn, hf, hlive]

/-- A shift of deadlines leaves every count. -/
theorem shiftNamed_counted (d : BitVec 32) (offers : List Offer) (slots : Vector (Option Record) 128)
    {f : Record → Bool} (hf : ∀ r : Record, f (r.shift d) = f r) (i : SlotNo) :
    countedIn f (shiftNamed d offers slots)[i] = countedIn f slots[i] := by
  rw [shiftNamed_get]
  split
  · cases slots[i] with
    | none => rfl
    | some r => exact shift_counted f d (hf r)
  · rfl

theorem CountsRight.shiftClock {s : State} (hs : CountsRight s) (v : RouteTime) : CountsRight (s.shiftClock v) := by
  obtain ⟨huse, hocc⟩ := hs
  constructor
  · intro k
    refine (huse k).trans (liveCount_congr fun i => ?_).symm
    rw [State.shiftClock_slots]
    exact shiftNamed_counted _ _ _ (fun r => by rw [Record.shift_eq]) i
  · intro c
    refine (hocc c).trans (liveCount_congr fun i => ?_).symm
    rw [State.shiftClock_slots]
    exact shiftNamed_counted _ _ _ (fun r => by rw [Record.shift_eq]) i

theorem reset_countsRight : CountsRight State.reset := by
  have hzero : ∀ f : Record → Bool, liveCount State.reset.slots f = 0 := by
    intro f
    refine List.countP_eq_zero.mpr fun i _ => ?_
    simp [State.reset]
  constructor
  · intro k
    rw [hzero]
    simp [State.reset]
  · intro c
    rw [hzero]
    simp [State.reset]

theorem Changed.countsRight {c : Instr} {s t : State} (h : Changed c s t) (hs : CountsRight s) : CountsRight t := by
  cases h.table with
  | same h _ _ => exact hs.of_sameTable h
  | worked hst hw h _ _ _ => exact (hw.countsRight hs).of_sameTable h
  | shifted v h _ _ _ => exact (hs.shiftClock v).of_sameTable h
  | emptied h _ => exact reset_countsRight.of_sameTable h

/-! ### Classes and compartments in use (R8, R9) -/

/-- Every live record's class is SET and its compartment ACTIVE. -/
def RecordsUse (s : State) : Prop :=
  ∀ (i : SlotNo) (r : Record) (l : LiveFields), s.slots[i] = some r → r.live = some l →
    s.classes[r.cls].isSome = true ∧ s.comps[r.comp].active = true

/-- A slot written with a record in use, or with none live. -/
theorem recordsUse_put {s t : State} (hs : RecordsUse s) {i : SlotNo} {x : Option Record}
    (hslots : t.slots = put s.slots i x) (hclasses : t.classes = s.classes) (hcomps : t.comps = s.comps)
    (hx : ∀ (q : Record) (l : LiveFields), x = some q → q.live = some l →
      s.classes[q.cls].isSome = true ∧ s.comps[q.comp].active = true) : RecordsUse t := by
  intro j q l hq hl
  rw [hclasses, hcomps]
  rw [hslots, put_get] at hq
  split at hq
  · exact hx q l hq hl
  · exact hs j q l hq hl

theorem recordsUse_freed {s t : State} (hs : RecordsUse s) {i : SlotNo} (hslots : t.slots = put s.slots i none)
    (hclasses : t.classes = s.classes) (hcomps : t.comps = s.comps) : RecordsUse t :=
  recordsUse_put hs hslots hclasses hcomps fun _ _ h => nomatch h

/-- A live record with the class and compartment of one in use. -/
theorem recordsUse_live {s t : State} (hs : RecordsUse s) {i : SlotNo} {r q : Record} {l : LiveFields}
    (hr : s.slots[i] = some r) (hl : r.live = some l) (hslots : t.slots = put s.slots i (some q))
    (hcls : q.cls = r.cls) (hcomp : q.comp = r.comp) (hclasses : t.classes = s.classes) (hcomps : t.comps = s.comps) :
    RecordsUse t := by
  have huse : ∀ (k : ClassNo) (c : CompNo), k = r.cls → c = r.comp →
      s.classes[k].isSome = true ∧ s.comps[c].active = true := by
    rintro _ _ rfl rfl
    exact hs i r l hr hl
  refine recordsUse_put hs hslots hclasses hcomps ?_
  rintro _ _ ⟨⟩ -
  exact huse _ _ hcls hcomp

theorem Worked.recordsUse {st : StepInProgress} {s u : State} (hst : s.engine = some st) (hc : CountsRight s)
    (hs : UseRight s) (h : Worked st s u) : RecordsUse u := by
  obtain ⟨hrec, hinputs⟩ := hs
  cases h with
  | nothing => exact hrec
  | admitted hfree hid hzero hk hc' hr =>
    obtain ⟨rfl, rfl, -⟩ := admitted_live hr
    rw [takeAboard_eq]
    refine recordsUse_put hrec rfl rfl rfl ?_
    rintro _ _ ⟨⟩ -
    exact ⟨by rw [hk]; rfl, hinputs st hst _ hc'⟩
  | @discarded i r l hr hl => exact recordsUse_freed hrec (i := i) rfl rfl rfl
  | @moved i r l b hr hl hb =>
    refine recordsUse_put hrec (i := i) rfl rfl rfl ?_
    rintro _ _ ⟨⟩ -
    rw [moveTo_eq hl]
    exact ⟨(hrec i r l hr (aboard_live hl)).1, hinputs st hst b hb⟩
  | offered hr hl hroom => exact recordsUse_live hrec hr (aboard_live hl) rfl rfl rfl rfl rfl
  | offerEnded hr hl _ => exact recordsUse_live hrec hr (offered_live hl) rfl rfl rfl rfl rfl
  | closed hr hl hunit hk =>
    refine recordsUse_put hrec rfl rfl rfl ?_
    rintro _ _ ⟨⟩ hl'
    cases hl'
  | statementRead hr hf =>
    refine recordsUse_put hrec rfl rfl rfl ?_
    rintro _ _ ⟨⟩ hl'
    cases hl'
  | @retired i r f hr hf => exact recordsUse_freed hrec (i := i) rfl rfl rfl
  | @classSet k v huse hv =>
    intro j q l hq hl
    have hcount := (hc.counted hq hl).1
    refine ⟨?_, (hrec j q l hq hl).2⟩
    show (put s.classes k v)[q.cls].isSome = true
    rw [put_get, if_neg]
    · exact (hrec j q l hq hl).1
    · rintro rfl
      omega
  | @switchedOff p k v hw hocc =>
    intro j q l hq hl
    have hcount := (hc.counted hq hl).2
    refine ⟨(hrec j q l hq hl).1, ?_⟩
    show (put s.comps k (s.comps[k].switchOff v.clamped))[q.comp].active = true
    rw [put_get, if_neg]
    · exact (hrec j q l hq hl).2
    · rintro rfl
      omega
  | identitySet hempty => exact hrec
  | charged hw hg hr hl hk hn htag =>
    have hq := charge_charged hl
    exact recordsUse_live hrec hr hl rfl (hq _ _ _ _).cls (hq _ _ _ _).comp rfl rfl
  | gapCharged hw hr hl hk =>
    have hq := chargeGap_charged hl
    exact recordsUse_live hrec hr hl rfl (hq _ _ _).cls (hq _ _ _).comp rfl rfl
  | exempted hw he => exact hrec

theorem RecordsUse.of_sameTable {u t : State} (hu : RecordsUse u) (h : SameTable u t)
    (ha : ∀ c : CompNo, u.comps[c].active = true → t.comps[c].active = true) : RecordsUse t := by
  intro i r l hr hl
  rw [h.slots] at hr
  rw [h.classes]
  obtain ⟨h1, h2⟩ := hu i r l hr hl
  exact ⟨h1, ha _ h2⟩

theorem Changed.useRight {c : Instr} {s t : State} (h : Changed c s t) (hc : CountsRight s) (hs : UseRight s) :
    UseRight t := by
  obtain ⟨hrec, hinputs⟩ := id hs
  have hidle : t.engine = none → ∀ st : StepInProgress, t.engine = some st →
      ∀ c : CompNo, st.inputs.comps[c].active = true → t.comps[c].active = true := by
    intro he st hst
    rw [he] at hst
    cases hst
  cases h.table with
  | same ht _ ha =>
    refine ⟨RecordsUse.of_sameTable hrec ht ha, ?_⟩
    cases h.engine with
    | same he => exact fun st hst c hc => ha c (hinputs st (he ▸ hst) c hc)
    | none he => exact hidle he
    | discarded st' hst' he =>
      intro st hst c hc
      rw [he] at hst
      cases hst
      exact ha c (hinputs st' hst' c hc)
    | begun w he =>
      intro st hst c hc
      rw [he] at hst
      cases hst
      exact hc
  | worked hst hw ht he _ ha =>
    exact ⟨(hw.recordsUse hst hc hs).of_sameTable ht fun c hc => by rw [ha]; exact hc, hidle he⟩
  | shifted v ht he _ ha =>
    refine ⟨fun i r l hr hl => ?_, hidle he⟩
    rw [ht.slots, State.shiftClock_slots] at hr
    rw [ht.classes, ha]
    obtain ⟨r', hr', rfl | rfl⟩ := shiftNamed_some hr
    · exact hrec i r l hr' hl
    · rw [Record.shift_eq]
      have hlive : ∃ l', r'.live = some l' := by
        rw [Record.shift_eq, Record.live] at hl
        unfold Record.live
        cases hcu : r'.custody with
        | aboard l' => exact ⟨l', rfl⟩
        | offered l' d => exact ⟨l', rfl⟩
        | closed f => rw [hcu] at hl; cases hl
      obtain ⟨l', hl'⟩ := hlive
      exact hrec i r' l' hr' hl'
  | emptied ht he =>
    refine ⟨fun i r l hr => ?_, hidle he⟩
    rw [ht.slots] at hr
    simp [State.reset] at hr

/-- Settles O54, by what each write of a slot does to the counts, and since a class is changed and a compartment switched
off only while no live record uses it. -/
theorem everyStepKeepsTheCountsAndTheirUse : Obligations.EveryStepKeepsTheCountsAndTheirUse := by
  intro s t hc hu hstep
  exact step_keeps (P := fun s => CountsRight s ∧ UseRight s) (fun _ _ h => h)
    (fun _ _ _ h he => ⟨he.countsRight h.1, he.useRight h.1 h.2⟩) ⟨hc, hu⟩ hstep

end Sys2Proof.Machine
end

section
/-!
PROOFS. The offer queue: what an insertion does to its order (R128), the OFFERED records it holds, and how every step keeps
both (R128, R147).
-/
namespace Sys2Proof.Machine

/-! ### Order of deadline -/

/-- Of two times less than 2^31 s after one base, the wrap-safe rule finds earlier the one nearer the base (R147). -/
theorem notLater_iff_of_near {base a b : RouteTime} (ha : (a - base).toNat < 2147483648)
    (hb : (b - base).toNat < 2147483648) : notLater a b = true ↔ (a - base).toNat ≤ (b - base).toNat := by
  unfold notLater
  rw [decide_eq_true_iff]
  constructor <;> intro h <;> bv_omega

theorem notLater_total_of_near {base a b : RouteTime} (ha : (a - base).toNat < 2147483648)
    (hb : (b - base).toNat < 2147483648) (h : ¬ notLater a b = true) : notLater b a = true := by
  rw [notLater_iff_of_near ha hb] at h
  rw [notLater_iff_of_near hb ha]
  omega

theorem notLater_trans_of_near {base a b c : RouteTime} (ha : (a - base).toNat < 2147483648)
    (hb : (b - base).toNat < 2147483648) (hc : (c - base).toNat < 2147483648) (hab : notLater a b = true)
    (hbc : notLater b c = true) : notLater a c = true := by
  rw [notLater_iff_of_near ha hb] at hab
  rw [notLater_iff_of_near hb hc] at hbc
  rw [notLater_iff_of_near ha hc]
  omega

/-- The order that the offer queue stands in. -/
def inDeadlineOrder (q : List Offer) : Prop := q.Pairwise (fun x y => notLater x.deadline y.deadline = true)

theorem mem_insertOffer {e x : Offer} {q : List Offer} : x ∈ insertOffer e q ↔ x = e ∨ x ∈ q := by
  rw [(insertOffer_perm e q).mem_iff, List.mem_cons]

theorem insertOffer_ordered {e : Offer} {q : List Offer} {base : RouteTime}
    (hnear : ∀ x ∈ e :: q, (x.deadline - base).toNat < 2147483648) (hq : inDeadlineOrder q) :
    inDeadlineOrder (insertOffer e q) := by
  have he := hnear e List.mem_cons_self
  induction q with
  | nil => exact List.pairwise_singleton _ _
  | cons x xs ih =>
    obtain ⟨hx, hxs⟩ := List.pairwise_cons.mp hq
    have hnx := hnear x (by simp)
    unfold insertOffer
    split
    · rename_i hle
      refine List.pairwise_cons.mpr ⟨fun y hy => ?_, ih (fun y hy => hnear y ?_) hxs⟩
      · rcases mem_insertOffer.mp hy with rfl | hy
        · exact hle
        · exact hx y hy
      · rcases List.mem_cons.mp hy with rfl | hy
        · exact List.mem_cons_self
        · exact List.mem_cons_of_mem _ (List.mem_cons_of_mem _ hy)
    · rename_i hlt
      have hex := notLater_total_of_near hnx he hlt
      refine List.pairwise_cons.mpr ⟨fun y hy => ?_, hq⟩
      rcases List.mem_cons.mp hy with rfl | hy
      · exact hex
      · exact notLater_trans_of_near he hnx (hnear y (by simp [hy])) hex (hx y hy)

/-- Settles O33, by the split of the queue at the new entry's place, and since the wrap-safe rule is a linear order on
deadlines near one base. -/
theorem newOfferStandsBehindEqualDeadlines : Obligations.NewOfferStandsBehindEqualDeadlines :=
  fun e q => ⟨insertOffer_split e q, fun _ hnear hq => insertOffer_ordered hnear hq⟩

/-! ### The OFFERED records -/

/-- The deadline of an OFFERED record. -/
def Custody.due : Custody → Option RouteTime
  | .aboard _ => none
  | .offered _ d => some d
  | .closed _ => none

/-- The deadline of the OFFERED record that a slot holds. -/
def dueIn (x : Option Record) : Option RouteTime := x.bind (fun r => r.custody.due)

theorem dueIn_some {x : Option Record} {d : RouteTime} :
    dueIn x = some d ↔ ∃ (r : Record) (l : LiveFields), x = some r ∧ r.custody = .offered l d := by
  unfold dueIn
  cases x with
  | none => simp
  | some r =>
    rw [Option.bind_some]
    unfold Custody.due
    cases hc : r.custody <;> simp [hc]

theorem mem_removeOffer {x : Offer} {i : SlotNo} {q : List Offer} : x ∈ removeOffer i q ↔ x ∈ q ∧ x.slot ≠ i := by
  rw [removeOffer_eq, List.mem_filter, decide_eq_true_iff]

theorem offersRight_iff {s : State} : OffersRight s ↔ s.offers.length ≤ 16 ∧ (s.offers.map Offer.slot).Nodup
    ∧ ∀ o : Offer, o ∈ s.offers ↔ dueIn s.slots[o.slot] = some o.deadline := by
  constructor
  · rintro ⟨hlen, hnd, hin, hall⟩
    refine ⟨hlen, hnd, fun o => ⟨fun ho => dueIn_some.mpr (hin o ho), fun ho => ?_⟩⟩
    obtain ⟨r, l, hr, hl⟩ := dueIn_some.mp ho
    exact hall o.slot r l o.deadline hr hl
  · rintro ⟨hlen, hnd, hiff⟩
    exact ⟨hlen, hnd, fun o ho => dueIn_some.mp ((hiff o).mp ho),
      fun i r l d hr hl => (hiff ⟨i, d⟩).mpr (dueIn_some.mpr ⟨r, l, hr, hl⟩)⟩

section
variable {s t : State} {i : SlotNo} {x : Option Record}

/-- A slot written, its deadline as it was. -/
theorem offersRight_put_same (hs : OffersRight s) (hslots : t.slots = put s.slots i x) (hoffers : t.offers = s.offers)
    (hdue : dueIn x = dueIn s.slots[i]) : OffersRight t := by
  rw [offersRight_iff] at hs ⊢
  obtain ⟨hlen, hnd, hiff⟩ := hs
  rw [hoffers]
  refine ⟨hlen, hnd, fun o => (hiff o).trans ?_⟩
  rw [hslots, put_get]
  split
  · rename_i hi
    rw [hdue, hi]
  · rfl

/-- A deadline put where none was, with its entry. -/
theorem offersRight_put_added {d : RouteTime} (hs : OffersRight s) (hroom : s.offers.length < 16)
    (hslots : t.slots = put s.slots i x) (hoffers : t.offers = insertOffer ⟨i, d⟩ s.offers)
    (hwas : dueIn s.slots[i] = none) (hdue : dueIn x = some d) : OffersRight t := by
  rw [offersRight_iff] at hs ⊢
  obtain ⟨hlen, hnd, hiff⟩ := hs
  have hnew : ∀ o ∈ s.offers, o.slot ≠ i := by
    rintro o ho rfl
    rw [(hiff o).mp ho] at hwas
    cases hwas
  have hperm := insertOffer_perm ⟨i, d⟩ s.offers
  rw [hoffers]
  refine ⟨?_, ?_, fun o => ?_⟩
  · rw [hperm.length_eq, List.length_cons]
    omega
  · rw [(hperm.map Offer.slot).nodup_iff, List.map_cons, List.nodup_cons]
    refine ⟨fun hi => ?_, hnd⟩
    obtain ⟨o, ho, hoi⟩ := List.mem_map.mp hi
    exact hnew o ho hoi
  · rw [mem_insertOffer, hslots, put_get]
    split
    · rename_i hi
      rw [hdue]
      constructor
      · rintro (rfl | ho)
        · rfl
        · exact absurd hi.symm (hnew o ho)
      · intro ho
        cases ho
        rw [hi]
        exact .inl rfl
    · rename_i hi
      rw [← hiff o]
      constructor
      · rintro (rfl | ho)
        · exact absurd rfl hi
        · exact ho
      · exact .inr

/-- A deadline taken away with its entry. -/
theorem offersRight_put_removed (hs : OffersRight s) (hslots : t.slots = put s.slots i x)
    (hoffers : t.offers = removeOffer i s.offers) (hdue : dueIn x = none) : OffersRight t := by
  rw [offersRight_iff] at hs ⊢
  obtain ⟨hlen, hnd, hiff⟩ := hs
  have hsub : (removeOffer i s.offers).Sublist s.offers := List.filter_sublist
  rw [hoffers]
  refine ⟨hsub.length_le.trans hlen, (hsub.map Offer.slot).nodup hnd, fun o => ?_⟩
  rw [mem_removeOffer, hslots, put_get, hiff o]
  split
  · rename_i hi
    rw [hdue]
    exact ⟨fun h => absurd hi.symm h.2, fun h => nomatch h⟩
  · rename_i hi
    exact ⟨fun h => h.1, fun h => ⟨h, fun h' => hi h'.symm⟩⟩

end

theorem dueIn_aboard {r : Record} {l : LiveFields} (h : r.custody = .aboard l) : dueIn (some r) = none := by
  simp [dueIn, h, Custody.due]

theorem dueIn_offered {r : Record} {l : LiveFields} {d : RouteTime} (h : r.custody = .offered l d) :
    dueIn (some r) = some d := by
  simp [dueIn, h, Custody.due]

theorem dueIn_closed {r : Record} {f : ClosedFields} (h : r.custody = .closed f) : dueIn (some r) = none := by
  simp [dueIn, h, Custody.due]

/-- A charge leaves a record's deadline. -/
theorem Charged.due {r q : Record} {g : ScanTag} (h : Charged r q g) : dueIn (some q) = dueIn (some r) := by
  show q.custody.due = r.custody.due
  rw [h.custody]
  cases r.custody <;> rfl

theorem admitted_due {st : StepInProgress} {r : Record} {cls : ClassNo} {k : ClassLimits} {c : CompNo}
    (hr : (∃ id, r = freshRecord st.inputs id cls c) ∨ ∃ b, r = carriedRecord st.inputs b cls k c) :
    dueIn (some r) = none := by
  rcases hr with ⟨id, rfl⟩ | ⟨b, rfl⟩
  · rfl
  · obtain ⟨w, q, p, h⟩ := judgeCarried_judged (presentedVerdict (byteAt 2 b))
      (presentedCause (presentedVerdict (byteAt 2 b)) (byteAt 3 b)) (carriedTests k (carriedFigures st.inputs b cls c))
      (carriedFigures st.inputs b cls c)
    have he : carriedRecord st.inputs b cls k c = _ := h
    rw [he]
    rfl

theorem OffersRight.of_sameTable {u t : State} (hu : OffersRight u) (h : SameTable u t) : OffersRight t := by
  rw [offersRight_iff] at hu ⊢
  rw [h.offers, h.slots]
  exact hu

/-- The queue after a step's work. -/
theorem Worked.offersRight {st : StepInProgress} {s u : State} (hs : OffersRight s) (h : Worked st s u) :
    OffersRight u := by
  cases h with
  | nothing => exact hs
  | @admitted i r cls k c hfree hid hzero hk hc hr =>
    rw [takeAboard_eq]
    refine offersRight_put_same hs (i := i) rfl rfl ?_
    rw [hfree, admitted_due hr]
    rfl
  | discarded hr hl =>
    refine offersRight_put_same hs rfl rfl ?_
    rw [hr, dueIn_aboard hl]
    rfl
  | @moved i r l b hr hl hb =>
    refine offersRight_put_same hs (i := i) rfl rfl ?_
    rw [hr, dueIn_aboard hl, moveTo_eq hl]
    rfl
  | @offered i r l own hr hl hroom =>
    refine offersRight_put_added hs hroom (i := i) rfl rfl ?_ (dueIn_offered rfl)
    rw [hr, dueIn_aboard hl]
  | @offerEnded i r l d lapses hr hl _ => exact offersRight_put_removed hs (i := i) rfl rfl (dueIn_aboard rfl)
  | @closed i r l d k receiver hr hl hunit hk =>
    exact offersRight_put_removed hs (i := i) rfl rfl (dueIn_closed rfl)
  | @statementRead i r f hr hf =>
    refine offersRight_put_same hs (i := i) rfl rfl ?_
    rw [hr, dueIn_closed hf]
    rfl
  | @retired i r f hr hf =>
    refine offersRight_put_same hs (i := i) rfl rfl ?_
    rw [hr, dueIn_closed hf]
    rfl
  | classSet huse hv => exact hs
  | switchedOff hw hocc => exact hs
  | identitySet hempty => exact hs
  | charged hw hg hr hl hk hn htag =>
    refine offersRight_put_same hs rfl rfl ?_
    rw [hr]
    exact (charge_charged hl _ _ _ _).due
  | gapCharged hw hr hl hk =>
    refine offersRight_put_same hs rfl rfl ?_
    rw [hr]
    exact (chargeGap_charged hl _ _ _).due
  | exempted hw he => exact hs

/-- An entry with its deadline shifted. -/
def Offer.shift (d : BitVec 32) (o : Offer) : Offer := { o with deadline := o.deadline + d }

theorem shiftClock_offers (s : State) (v : RouteTime) :
    (s.shiftClock v).offers = s.offers.map (Offer.shift (v - s.clock)) := rfl

theorem shift_due (d : BitVec 32) (x : Option Record) :
    dueIn (x.map (·.shift d)) = (dueIn x).map (· + d) := by
  cases x with
  | none => rfl
  | some r =>
    show (r.shift d).custody.due = r.custody.due.map (· + d)
    rw [Record.shift_eq]
    unfold Custody.shift Custody.due
    cases r.custody <;> rfl

/-- A shift of the queue shifts the deadline of every OFFERED record, since the queue names each. -/
theorem shiftClock_due {s : State} (hs : OffersRight s) (v : RouteTime) (i : SlotNo) :
    dueIn (s.shiftClock v).slots[i] = (dueIn s.slots[i]).map (· + (v - s.clock)) := by
  rw [State.shiftClock_slots, shiftNamed_get]
  split
  · exact shift_due _ _
  · rename_i hany
    cases hdue : dueIn s.slots[i] with
    | none => rfl
    | some d =>
      have hmem := ((offersRight_iff.mp hs).2.2 ⟨i, d⟩).mpr hdue
      exact absurd (List.any_eq_true.mpr ⟨_, hmem, beq_self_eq_true i⟩) hany

theorem OffersRight.shiftClock {s : State} (hs : OffersRight s) (v : RouteTime) : OffersRight (s.shiftClock v) := by
  obtain ⟨hlen, hnd, hiff⟩ := offersRight_iff.mp hs
  rw [offersRight_iff, shiftClock_offers]
  refine ⟨by rwa [List.length_map], by rwa [List.map_map], fun o => ?_⟩
  rw [shiftClock_due hs, Option.map_eq_some_iff, List.mem_map]
  constructor
  · rintro ⟨o, ho, rfl⟩
    exact ⟨o.deadline, (hiff o).mp ho, rfl⟩
  · rintro ⟨d, hd, hsum⟩
    refine ⟨⟨o.slot, d⟩, (hiff _).mpr hd, ?_⟩
    unfold Offer.shift
    rw [hsum]

theorem Changed.offersRight {c : Instr} {s t : State} (h : Changed c s t) (hs : OffersRight s) : OffersRight t := by
  cases h.table with
  | same h _ _ => exact hs.of_sameTable h
  | worked _ hw h _ _ _ => exact (hw.offersRight hs).of_sameTable h
  | shifted v h _ _ _ => exact (hs.shiftClock v).of_sameTable h
  | emptied h _ =>
    refine OffersRight.of_sameTable (u := State.reset) (offersRight_iff.mpr ⟨?_, ?_, fun o => ?_⟩) h
    · exact Nat.zero_le _
    · exact List.nodup_nil
    · simp [State.reset, dueIn]

/-! ### The queue's order -/

/-- What one command makes of the queue, the clock and the step in progress. -/
inductive QueueChanged (c : Instr) (s t : State) : Prop
  | kept (hoffers : t.offers = s.offers) (hclock : t.clock = s.clock ∨ c = .routeClockSecond)
  | added (i : SlotNo) (st : StepInProgress) (own : Nat) (hst : s.engine = some st)
      (hoffers : t.offers
        = insertOffer ⟨i, later st.inputs.now (offerTimeoutUsed st.inputs.offerTimeout own)⟩ s.offers)
      (hclock : t.clock = s.clock)
  | removed (i : SlotNo) (hoffers : t.offers = removeOffer i s.offers) (hclock : t.clock = s.clock)
  | shifted (v : RouteTime) (hoffers : t.offers = s.offers.map (Offer.shift (v - s.clock))) (hclock : t.clock = v)
      (he : t.engine = none)
  | emptied (hoffers : t.offers = []) (he : t.engine = none)

theorem Changed.queue {c : Instr} {s t : State} (h : Changed c s t) : QueueChanged c s t := by
  cases h.table with
  | same h hclock _ => exact .kept h.offers hclock
  | shifted v h he hclock _ => exact .shifted v h.offers hclock he
  | emptied h he => exact .emptied h.offers he
  | @worked st u hst hw h _ hclock _ =>
    cases hw with
    | admitted hfree hid hzero hk hc hr =>
      rw [takeAboard_eq] at h
      exact .kept h.offers (.inl hclock)
    | offered hr hl hroom => exact .added _ st _ hst h.offers hclock
    | offerEnded hr hl _ => exact .removed _ h.offers hclock
    | closed hr hl hunit hk => exact .removed _ h.offers hclock
    | nothing | discarded | moved | statementRead | retired | classSet | switchedOff | identitySet | charged | gapCharged
      | exempted => exact .kept h.offers (.inl hclock)

/-- A deadline as near the clock as DeadlinesNear has it. -/
def NearClock (clock d : RouteTime) : Prop := (clock + 3600 - d).toNat < 2147483648

theorem offerTimeoutUsed_le {stored : Nat} (own : Nat) (h : stored ≤ 3600) : offerTimeoutUsed stored own ≤ 3600 := by
  unfold offerTimeoutUsed
  split
  · exact h
  · exact (clampTimeout_right own).2

/-- The deadline of a new offer is as near as its step's start was recent. -/
theorem nearClock_later {clock now : RouteTime} {T : Nat} (hnow : (clock - now).toNat < 2147480048) (hT : T ≤ 3600) :
    NearClock clock (later now T) := by
  unfold NearClock later
  bv_omega

theorem NearClock.shift {clock d : RouteTime} (h : NearClock clock d) (v : RouteTime) :
    NearClock v (d + (v - clock)) := by
  unfold NearClock at h ⊢
  have hd : v + 3600 - (d + (v - clock)) = clock + 3600 - d := by bv_omega
  rwa [hd]

/-- Near the clock is after one base. -/
theorem NearClock.base {clock d : RouteTime} (h : NearClock clock d) :
    (d - (clock + 3600 - 2147483647)).toNat < 2147483648 := by
  unfold NearClock at h
  bv_omega

theorem notLater_shift (a b : RouteTime) (d : BitVec 32) : notLater (a + d) (b + d) = notLater a b := by
  unfold notLater
  have hd : b + d - (a + d) = b - a := by bv_omega
  rw [hd]

/-- A new offer's deadline is near the clock. -/
theorem newOffer_near {s : State} (hr : RangesRight s) (hn : DeadlinesNear s) {st : StepInProgress}
    (hst : s.engine = some st) (own : Nat) :
    NearClock s.clock (later st.inputs.now (offerTimeoutUsed st.inputs.offerTimeout own)) := by
  obtain ⟨-, -, -, hranges⟩ := hr
  obtain ⟨-, -, htimeout⟩ := hranges st hst
  exact nearClock_later (hn.2 st hst) (offerTimeoutUsed_le own htimeout)

theorem Changed.offersOrdered {c : Instr} {s t : State} (h : Changed c s t) (hr : RangesRight s) (hn : DeadlinesNear s)
    (hs : inDeadlineOrder s.offers) : inDeadlineOrder t.offers := by
  cases h.queue with
  | kept ho _ => rwa [ho]
  | added i st own hst ho hclock =>
    rw [ho]
    refine insertOffer_ordered (base := s.clock + 3600 - 2147483647) (fun x hx => ?_) hs
    rcases List.mem_cons.mp hx with rfl | hx
    · exact (newOffer_near hr hn hst own).base
    · exact NearClock.base (hn.1 x hx)
  | removed i ho _ =>
    rw [ho]
    exact hs.sublist List.filter_sublist
  | shifted v ho _ _ =>
    rw [ho]
    refine List.pairwise_map.mpr (hs.imp fun {x y} hxy => ?_)
    exact (notLater_shift _ _ _).trans hxy
  | emptied ho _ =>
    rw [ho]
    exact List.Pairwise.nil

theorem Changed.deadlinesNear {c : Instr} {s t : State} (h : Changed c s t) (hc : c ≠ .routeClockSecond)
    (hr : RangesRight s) (hn : DeadlinesNear s) : DeadlinesNear t := by
  have hoffers : ∀ o ∈ s.offers, NearClock s.clock o.deadline := hn.1
  have hrecent : t.clock = s.clock → ∀ st : StepInProgress, t.engine = some st →
      (t.clock - st.inputs.now).toNat < 2147480048 := by
    intro hclock st hst
    rw [hclock]
    cases h.engine with
    | same he => exact hn.2 st (he ▸ hst)
    | none he => rw [he] at hst; cases hst
    | discarded st' hst' he =>
      rw [he] at hst
      cases hst
      exact hn.2 st' hst'
    | begun w he =>
      rw [he] at hst
      cases hst
      show (s.clock - t.clock).toNat < _
      rw [hclock, BitVec.sub_self]
      decide
  have hidle : t.engine = none → ∀ st : StepInProgress, t.engine = some st →
      (t.clock - st.inputs.now).toNat < 2147480048 := by
    intro he st hst
    rw [he] at hst
    cases hst
  suffices (∀ o ∈ t.offers, NearClock t.clock o.deadline) ∧ (t.clock = s.clock ∨ t.engine = none) from
    ⟨this.1, this.2.elim hrecent hidle⟩
  cases h.queue with
  | kept ho hclock =>
    have hclock := hclock.resolve_right hc
    rw [ho, hclock]
    exact ⟨hoffers, .inl rfl⟩
  | added i st own hst ho hclock =>
    rw [ho, hclock]
    refine ⟨fun o hm => ?_, .inl rfl⟩
    rcases mem_insertOffer.mp hm with rfl | hm
    · exact newOffer_near hr hn hst own
    · exact hoffers o hm
  | removed i ho hclock =>
    rw [ho, hclock]
    exact ⟨fun o hm => hoffers o (mem_removeOffer.mp hm).1, .inl rfl⟩
  | shifted v ho hclock he =>
    rw [ho, hclock]
    refine ⟨fun o hm => ?_, .inr he⟩
    obtain ⟨x, hx, rfl⟩ := List.mem_map.mp hm
    exact (hoffers x hx).shift v
  | emptied ho he =>
    rw [ho]
    refine ⟨fun o hm => ?_, .inr he⟩
    cases hm

/-- One step is one command on the state without it, or no change. -/
theorem step_changed {s t : State} (h : step s = .next t) :
    t = s ∨ ∃ (c : Instr) (q : List Instr), s.pending.head? = some c ∧ Changed c (s.withPending q) t := by
  unfold step at h
  split at h
  · rename_i c q hq
    exact .inr ⟨c, q, by rw [hq]; rfl, exec_changed h⟩
  · cases h
    exact .inl rfl

theorem offerQueueStaysInOrder : OfferQueueStaysInOrder := by
  intro s t hr hn hstep
  rcases step_changed hstep with rfl | ⟨c, q, hq, h⟩
  · exact ⟨id, fun _ => hn⟩
  · refine ⟨h.offersOrdered (s := s.withPending q) hr hn, fun hc => ?_⟩
    exact h.deadlinesNear (s := s.withPending q) (fun he => hc (he ▸ hq)) hr hn

/-- Settles O55, by what each write of a slot does to the deadline it holds, and since an entry's insertion, its removal
and a common shift keep a queue of near deadlines in order. -/
theorem everyStepKeepsTheOfferQueue : Obligations.EveryStepKeepsTheOfferQueue := by
  refine ⟨fun s t hs hstep => ?_, offerQueueStaysInOrder⟩
  exact step_keeps (P := OffersRight) (fun _ _ h => h) (fun _ _ _ h he => he.offersRight h) hs hstep

end Sys2Proof.Machine
end

section
/-!
PROOFS. The charged tags (R88, R89): what the passes, the scanner and the step in progress keep of them.
-/
namespace Sys2Proof.Machine

/-! ### The parts of TagsRight -/

/-- The tag of the live record that a slot holds. -/
def tagIn (x : Option Record) : Option ScanTag := x.bind (fun r => r.live.map LiveFields.tag)

theorem tagIn_some {x : Option Record} {g : ScanTag} :
    tagIn x = some g ↔ ∃ (r : Record) (l : LiveFields), x = some r ∧ r.live = some l ∧ l.tag = g := by
  unfold tagIn
  cases x with
  | none => simp
  | some r => simp

theorem tagIn_live {r : Record} {l : LiveFields} (h : r.live = some l) : tagIn (some r) = some l.tag := by
  simp [tagIn, h]

theorem tagIn_dead {r : Record} (h : r.live = none) : tagIn (some r) = none := by
  simp [tagIn, h]

/-- A tag that a live record of a slot may carry. -/
def TagPlaced (s : State) (i : SlotNo) (g : ScanTag) : Prop :=
  (g = s.scanner.tag ∨ g = s.scanner.tag - 1)
    ∧ (s.power = .present →
        (s.exposure.passTag.isSome = true → i < s.exposure.accrualCursor → g = s.scanner.tag)
          ∧ (s.exposure.gapEnd.isSome = true → i < s.exposure.gapCursor ∨ s.exposure.gapExempt[i] = true →
              g = s.scanner.tag)
          ∧ (s.exposure.passTag = none → s.exposure.gapEnd = none → g = s.scanner.tag))

theorem TagPlaced.current {s : State} {i : SlotNo} {g : ScanTag} (h : g = s.scanner.tag) : TagPlaced s i g :=
  ⟨.inl h, fun _ => ⟨fun _ _ => h, fun _ _ => h, fun _ _ => h⟩⟩

/-- What TagsRight says of the slots, the scanner and the passes. -/
structure PassesRight (s : State) : Prop where
  placed : ∀ (i : SlotNo) (g : ScanTag), tagIn s.slots[i] = some g → TagPlaced s i g
  running : s.exposure.passTag.isSome = true ↔ s.scanner.phase = .charging
  passTag : ∀ g : ScanTag, s.exposure.passTag = some g → g = s.scanner.tag
  gap : s.exposure.gapEnd.isSome = true → s.scanner.phase = .idle ∧ s.scanner.nextTick = none

/-- What it says of a step in progress. -/
structure FlightTagRight (s : State) (st : StepInProgress) : Prop where
  tag : st.inputs.tag = s.scanner.tag
    ∨ (st.inputs.tag = s.scanner.tag - 1 ∧ s.exposure.passTag.isSome = true ∧ s.exposure.accrualCursor = 0)
  accrual : st.work = .accrual → s.exposure.passTag.isSome = true
    ∧ ∀ (i : SlotNo) (r : Record) (l : LiveFields), s.slots[i] = some r → r.live = some l →
      st.inputs.comps[r.comp].snapshot.isSome = true
  gap : st.work = .gap → s.exposure.gapEnd.isSome = true

theorem tagsRight_iff {s : State} :
    TagsRight s ↔ PassesRight s ∧ ∀ st : StepInProgress, s.engine = some st → FlightTagRight s st := by
  constructor
  · rintro ⟨hplaced, hrunning, hpass, hgap, hflight⟩
    refine ⟨⟨fun i g hg => ?_, hrunning, hpass, hgap⟩, fun st hst => ?_⟩
    · obtain ⟨r, l, hr, hl, rfl⟩ := tagIn_some.mp hg
      exact hplaced i r l hr hl
    · obtain ⟨h1, h2, h3⟩ := hflight st hst
      exact ⟨h1, h2, h3⟩
  · rintro ⟨⟨hplaced, hrunning, hpass, hgap⟩, hflight⟩
    refine ⟨fun i r l hr hl => hplaced i l.tag (tagIn_some.mpr ⟨r, l, hr, hl, rfl⟩), hrunning, hpass, hgap,
      fun st hst => ?_⟩
    obtain ⟨h1, h2, h3⟩ := hflight st hst
    exact ⟨h1, h2, h3⟩

theorem TagsRight.of_idle {s : State} (h : PassesRight s) (he : s.engine = none) : TagsRight s :=
  tagsRight_iff.mpr ⟨h, fun st hst => by rw [he] at hst; cases hst⟩

/-- A gap pass and an accrual pass exclude each other. -/
theorem PassesRight.no_gap {s : State} (h : PassesRight s) (hphase : s.scanner.phase ≠ .idle) :
    s.exposure.gapEnd = none := by
  cases hg : s.exposure.gapEnd with
  | none => rfl
  | some x => exact absurd (h.gap (by rw [hg]; rfl)).1 hphase

theorem PassesRight.no_pass {s : State} (h : PassesRight s) (hphase : s.scanner.phase ≠ .charging) :
    s.exposure.passTag = none := by
  cases hp : s.exposure.passTag with
  | none => rfl
  | some x => exact absurd (h.running.mp (by rw [hp]; rfl)) hphase

/-- A gap visit has read the current tag. -/
theorem PassesRight.gapFlight_tag {s : State} {st : StepInProgress} (h : PassesRight s) (hf : FlightTagRight s st)
    (hw : st.work = .gap) : st.inputs.tag = s.scanner.tag := by
  have hidle := (h.gap (hf.gap hw)).1
  rcases hf.tag with htag | ⟨-, hpass, -⟩
  · exact htag
  · rw [h.running.mp hpass] at hidle
    cases hidle

/-! ### States with the same passes -/

/-- Two states with the same passes, exemptions apart. -/
structure SamePasses (s t : State) : Prop where
  power : t.power = s.power
  tag : t.scanner.tag = s.scanner.tag
  phase : t.scanner.phase = s.scanner.phase
  nextTick : s.scanner.nextTick = none → t.scanner.nextTick = none
  passTag : t.exposure.passTag = s.exposure.passTag
  accrualCursor : t.exposure.accrualCursor = s.exposure.accrualCursor
  gapEnd : t.exposure.gapEnd.isSome = s.exposure.gapEnd.isSome
  gapCursor : t.exposure.gapCursor = s.exposure.gapCursor

theorem SamePasses.of_eq {s t : State} (hpower : t.power = s.power) (hscanner : t.scanner = s.scanner)
    (hexposure : t.exposure = s.exposure) : SamePasses s t := by
  constructor <;> simp only [hpower, hscanner, hexposure, imp_self]

theorem Outer.samePasses {s t : State} (h : Outer s t) : SamePasses s t := by
  obtain ⟨_, _, _, _, rfl⟩ := h
  exact .of_eq rfl rfl rfl

theorem SamePasses.trans {s t u : State} (h : SamePasses s t) (h' : SamePasses t u) : SamePasses s u :=
  ⟨h'.power.trans h.power, h'.tag.trans h.tag, h'.phase.trans h.phase, fun hn => h'.nextTick (h.nextTick hn),
    h'.passTag.trans h.passTag, h'.accrualCursor.trans h.accrualCursor, h'.gapEnd.trans h.gapEnd,
    h'.gapCursor.trans h.gapCursor⟩

theorem TagPlaced.kept {s t : State} {i : SlotNo} {g : ScanTag} (hs : TagPlaced s i g) (h : SamePasses s t)
    (hexempt : t.exposure.gapExempt[i] = true → s.exposure.gapExempt[i] = true) : TagPlaced t i g := by
  obtain ⟨hnear, hs⟩ := hs
  unfold TagPlaced
  rw [h.tag, h.power, h.passTag, h.accrualCursor, h.gapEnd, h.gapCursor]
  refine ⟨hnear, fun hp => ?_⟩
  obtain ⟨h1, h2, h3⟩ := hs hp
  refine ⟨h1, fun hg hi => h2 hg (hi.imp_right hexempt), fun hpass hgap => h3 hpass ?_⟩
  simpa [hgap] using h.gapEnd

/-- The passes stay right while every live record's tag does. -/
theorem PassesRight.kept {s t : State} (hs : PassesRight s) (h : SamePasses s t)
    (hplaced : ∀ (i : SlotNo) (g : ScanTag), tagIn t.slots[i] = some g → TagPlaced t i g) : PassesRight t := by
  obtain ⟨-, hrunning, hpass, hgap⟩ := hs
  refine ⟨hplaced, ?_, ?_, ?_⟩
  · rw [h.passTag, h.phase]
    exact hrunning
  · rw [h.passTag, h.tag]
    exact hpass
  · rw [h.gapEnd, h.phase]
    exact fun hg => ⟨(hgap hg).1, h.nextTick (hgap hg).2⟩

theorem PassesRight.of_same {s t : State} (hs : PassesRight s) (h : SamePasses s t)
    (hexempt : t.exposure.gapExempt = s.exposure.gapExempt) (hslots : t.slots = s.slots) : PassesRight t := by
  refine hs.kept h fun i g hg => ?_
  rw [hslots] at hg
  exact (hs.placed i g hg).kept h (by rw [hexempt]; exact id)

theorem FlightTagRight.of_same {s t : State} {st : StepInProgress} (hs : FlightTagRight s st) (h : SamePasses s t)
    (hslots : t.slots = s.slots) : FlightTagRight t st := by
  obtain ⟨h1, h2, h3⟩ := hs
  refine ⟨?_, ?_, ?_⟩
  · rw [h.tag, h.passTag, h.accrualCursor]
    exact h1
  · rw [h.passTag, hslots]
    exact h2
  · rw [h.gapEnd]
    exact h3

theorem TagsRight.of_same {s t : State} (hs : TagsRight s) (h : SamePasses s t)
    (hexempt : t.exposure.gapExempt = s.exposure.gapExempt) (hslots : t.slots = s.slots)
    (hengine : t.engine = s.engine) : TagsRight t := by
  obtain ⟨hp, hf⟩ := tagsRight_iff.mp hs
  exact tagsRight_iff.mpr ⟨hp.of_same h hexempt hslots, fun st hst => (hf st (hengine ▸ hst)).of_same h hslots⟩

/-- A slot written with a tag in place. -/
theorem PassesRight.written {s t : State} (hs : PassesRight s) {i : SlotNo} {x : Option Record} (h : SamePasses s t)
    (hslots : t.slots = put s.slots i x)
    (hexempt : ∀ j : SlotNo, j ≠ i → t.exposure.gapExempt[j] = true → s.exposure.gapExempt[j] = true)
    (hx : ∀ g : ScanTag, tagIn x = some g → TagPlaced t i g) : PassesRight t := by
  refine hs.kept h fun j g hg => ?_
  rw [hslots, put_get] at hg
  split at hg
  · rename_i hij
    exact hij ▸ hx g hg
  · rename_i hij
    exact (hs.placed j g hg).kept h (hexempt j (Ne.symm hij))

/-- A slot written with the tag it held, or with none. -/
theorem PassesRight.written_same {s t : State} (hs : PassesRight s) {i : SlotNo} {x : Option Record}
    (h : SamePasses s t) (hslots : t.slots = put s.slots i x)
    (hexempt : t.exposure.gapExempt = s.exposure.gapExempt)
    (hx : ∀ g : ScanTag, tagIn x = some g → tagIn s.slots[i] = some g) : PassesRight t :=
  hs.written h hslots (fun j _ => by rw [hexempt]; exact id) fun g hg =>
    (hs.placed i g (hx g hg)).kept h (by rw [hexempt]; exact id)

/-! ### The forming of snapshots -/

/-- No pass is in flight, and every live record carries the current tag. -/
structure NoPass (s : State) : Prop where
  passTag : s.exposure.passTag = none
  gapEnd : s.exposure.gapEnd = none
  current : ∀ (i : SlotNo) (g : ScanTag), tagIn s.slots[i] = some g → g = s.scanner.tag

theorem PassesRight.noPass {s : State} (h : PassesRight s) (hpower : s.power = .present)
    (hp : s.exposure.passTag = none) (hg : s.exposure.gapEnd = none) : NoPass s :=
  ⟨hp, hg, fun i g hi => ((h.placed i g hi).2 hpower).2.2 hp hg⟩

/-- With no pass in flight, the passes are right in a scanner that is not CHARGING. -/
theorem NoPass.passesRight {s : State} (h : NoPass s) (hphase : s.scanner.phase ≠ .charging) : PassesRight s := by
  obtain ⟨hp, hg, hcurrent⟩ := h
  refine ⟨fun i g hi => .current (hcurrent i g hi), ?_, ?_, ?_⟩
  · simp [hp, hphase]
  · simp [hp]
  · simp [hg]

/-- A step in progress of no pass, begun at the current tag. -/
structure FlightCurrent (s : State) (st : StepInProgress) : Prop where
  tag : st.inputs.tag = s.scanner.tag
  work : st.work ≠ .accrual ∧ st.work ≠ .gap

theorem NoPass.flight {s : State} {st : StepInProgress} (h : NoPass s) (hf : FlightTagRight s st) :
    FlightCurrent s st := by
  obtain ⟨hp, hg, -⟩ := h
  obtain ⟨h1, h2, h3⟩ := hf
  rw [hp] at h1 h2
  rw [hg] at h3
  refine ⟨?_, fun hw => ?_, fun hw => ?_⟩
  · rcases h1 with h1 | ⟨-, h1, -⟩
    · exact h1
    · cases h1
  · cases (h2 hw).1
  · cases h3 hw

theorem FlightCurrent.flightTagRight {s : State} {st : StepInProgress} (h : FlightCurrent s st) :
    FlightTagRight s st :=
  ⟨.inl h.tag, fun hw => absurd hw h.work.1, fun hw => absurd hw h.work.2⟩

theorem NoPass.formSnapshots {s : State} (h : NoPass s) : PassesRight s.formSnapshots := by
  have htag : s.formSnapshots.scanner.tag = s.scanner.tag + 1 := rfl
  have hpass : s.formSnapshots.exposure.passTag = some (s.scanner.tag + 1) := rfl
  have hcursor : s.formSnapshots.exposure.accrualCursor = 0 := rfl
  have hgap : s.formSnapshots.exposure.gapEnd = none := h.gapEnd
  have hphase : s.formSnapshots.scanner.phase = .charging := rfl
  refine ⟨fun i g hi => ?_, ?_, ?_, ?_⟩
  · have hg : g = s.scanner.tag := h.current i g hi
    unfold TagPlaced
    rw [htag, hpass, hcursor, hgap]
    refine ⟨.inr (by rw [hg, add_sub_cancel_right]), fun _ => ⟨fun _ hi => ?_, nofun, nofun⟩⟩
    exact absurd hi (Nat.not_lt_zero _)
  · simp [hpass, hphase]
  · rw [hpass, htag]
    rintro g ⟨⟩
    rfl
  · rw [hgap]
    nofun

theorem FlightCurrent.formSnapshots {s : State} {st : StepInProgress} (h : FlightCurrent s st) :
    FlightTagRight s.formSnapshots st := by
  refine ⟨.inr ⟨?_, rfl, rfl⟩, fun hw => absurd hw h.work.1, fun hw => absurd hw h.work.2⟩
  show st.inputs.tag = s.scanner.tag + 1 - 1
  rw [h.tag, add_sub_cancel_right]

theorem NoPass.formIfPolled {s : State} (h : NoPass s) (hphase : s.scanner.phase ≠ .charging)
    (hf : ∀ st : StepInProgress, s.engine = some st → FlightCurrent s st) : TagsRight s.formIfPolled := by
  unfold State.formIfPolled
  split
  · exact tagsRight_iff.mpr ⟨h.formSnapshots, fun st hst => FlightCurrent.formSnapshots (hf st hst)⟩
  · exact tagsRight_iff.mpr ⟨h.passesRight hphase, fun st hst => (hf st hst).flightTagRight⟩

theorem NoPass.startScan {s : State} (h : NoPass s)
    (hf : ∀ st : StepInProgress, s.engine = some st → FlightCurrent s st) : TagsRight s.startScan := by
  obtain ⟨hp, hg, hcurrent⟩ := h
  refine NoPass.formIfPolled ⟨hp, hg, hcurrent⟩ nofun fun st hst => ?_
  obtain ⟨htag, hwork⟩ := hf st hst
  exact ⟨htag, hwork⟩

/-! ### The advance of a pass -/

/-- A slot below the one after the cursor is below the cursor, or at it. -/
theorem lt_next {c i : SlotNo} {h : c.val + 1 < 128} (hi : i < (⟨c.val + 1, h⟩ : SlotNo)) : i < c ∨ i = c := by
  rw [Fin.lt_def] at hi
  rw [Fin.lt_def, Fin.ext_iff]
  change i.val < c.val + 1 at hi
  omega

/-- Every slot is below the last, or is it. -/
theorem lt_last {c : SlotNo} (h : ¬ c.val + 1 < 128) (i : SlotNo) : i < c ∨ i = c := by
  rw [Fin.lt_def, Fin.ext_iff]
  have := i.isLt
  omega

theorem PassesRight.accrualAdvance {s : State} (hs : PassesRight s) (hpower : s.power = .present)
    (hpass : s.exposure.passTag.isSome = true) (he : s.engine = none)
    (hvisit : ∀ (i : SlotNo) (g : ScanTag), i = s.exposure.accrualCursor → tagIn s.slots[i] = some g → g = s.scanner.tag) :
    TagsRight s.accrualAdvance := by
  have hbelow : ∀ (i : SlotNo) (g : ScanTag), tagIn s.slots[i] = some g →
      i < s.exposure.accrualCursor ∨ i = s.exposure.accrualCursor → g = s.scanner.tag := by
    rintro i g hg (hi | rfl)
    · exact ((hs.placed i g hg).2 hpower).1 hpass hi
    · exact hvisit _ g rfl hg
  have hgap : s.exposure.gapEnd = none := hs.no_gap (by rw [hs.running.mp hpass]; nofun)
  unfold State.accrualAdvance
  split
  · refine TagsRight.of_idle ⟨fun i g hg => ?_, hs.running, hs.passTag, hs.gap⟩ he
    have hold := hs.placed i g hg
    exact ⟨hold.1, fun hp => ⟨fun _ hi => hbelow i g hg (lt_next hi), (hold.2 hp).2⟩⟩
  · rename_i hlast
    have hno : NoPass
        { s with
          exposure := { s.exposure with accrualCursor := 0, passTag := none }
          scanner := { s.scanner with phase := .idle, span := none } } :=
      ⟨rfl, hgap, fun i g hg => hbelow i g hg (lt_last hlast i)⟩
    unfold State.passEnded
    split
    · exact hno.startScan fun st hst => by rw [he] at hst; cases hst
    · exact .of_idle (hno.passesRight nofun) he

theorem PassesRight.gapAdvance {s : State} (hs : PassesRight s) (hpower : s.power = .present)
    (hgap : s.exposure.gapEnd.isSome = true) (he : s.engine = none)
    (hvisit : ∀ (i : SlotNo) (g : ScanTag), i = s.exposure.gapCursor → tagIn s.slots[i] = some g → g = s.scanner.tag) :
    TagsRight s.gapAdvance := by
  have hbelow : ∀ (i : SlotNo) (g : ScanTag), tagIn s.slots[i] = some g →
      i < s.exposure.gapCursor ∨ i = s.exposure.gapCursor → g = s.scanner.tag := by
    rintro i g hg (hi | rfl)
    · exact ((hs.placed i g hg).2 hpower).2.1 hgap (.inl hi)
    · exact hvisit _ g rfl hg
  have hidle : s.scanner.phase = .idle := (hs.gap hgap).1
  have hpass : s.exposure.passTag = none := hs.no_pass (by rw [hidle]; nofun)
  unfold State.gapAdvance
  split
  · refine TagsRight.of_idle ⟨fun i g hg => ?_, hs.running, hs.passTag, hs.gap⟩ he
    obtain ⟨hnear, hold⟩ := hs.placed i g hg
    refine ⟨hnear, fun hp => ?_⟩
    obtain ⟨h1, h2, h3⟩ := hold hp
    refine ⟨h1, fun hg' hi => ?_, h3⟩
    rcases hi with hi | hi
    · exact hbelow i g hg (lt_next hi)
    · exact h2 hg' (.inr hi)
  · rename_i hlast
    have hno : NoPass s.gapEnded := ⟨hpass, rfl, fun i g hg => hbelow i g hg (lt_last hlast i)⟩
    refine .of_idle (hno.passesRight ?_) he
    show s.scanner.phase ≠ .charging
    rw [hidle]
    nofun

/-! ### A pass's visit -/

theorem visitSlot_slots (s : State) (i : SlotNo) (f : Record → Record × FlagSet) :
    (s.visitSlot i f).slots[i] = s.slots[i].map (fun r => (f r).1) := by
  unfold State.visitSlot
  split
  · rename_i r hr
    rw [State.raise_slots]
    show (put s.slots i (some (f r).1))[i] = _
    rw [put_get, if_pos rfl, hr]
    rfl
  · rename_i hr
    rw [hr]
    rfl

/-- After an accrual visit, the live record of its slot carries the pass's tag. -/
theorem accrualWork_current {s : State} {inp : StepInputs} {g : ScanTag} (hg : s.exposure.passTag = some g)
    (hsnap : ∀ (i : SlotNo) (r : Record) (l : LiveFields), s.slots[i] = some r → r.live = some l →
      s.classes[r.cls].isSome = true ∧ inp.comps[r.comp].snapshot.isSome = true) {x : ScanTag}
    (hx : tagIn (accrualWork inp s).slots[s.exposure.accrualCursor] = some x) : x = g := by
  unfold accrualWork at hx
  rw [hg] at hx
  dsimp only at hx
  rw [visitSlot_slots] at hx
  cases hr : s.slots[s.exposure.accrualCursor] with
  | none => rw [hr] at hx; cases hx
  | some r =>
    rw [hr, Option.map_some] at hx
    unfold accrualVisited at hx
    cases hl : r.live with
    | none =>
      rw [hl] at hx
      rw [tagIn_dead hl] at hx
      cases hx
    | some l =>
      obtain ⟨hk, hn⟩ := hsnap _ r l hr hl
      obtain ⟨k, hk⟩ := Option.isSome_iff_exists.mp hk
      obtain ⟨n, hn⟩ := Option.isSome_iff_exists.mp hn
      rw [hl, hk, hn] at hx
      dsimp only at hx
      split at hx
      · rename_i htag
        rw [tagIn_live hl] at hx
        cases hx
        exact htag
      · rw [tagIn_live ((charge_charged hl _ _ _ _).live hl)] at hx
        cases hx
        rfl

/-- After a gap visit, the live record of its slot carries the tag that the step read, or is exempt and as it was. -/
theorem gapWork_current {s : State} {inp : StepInputs}
    (hclass : ∀ (i : SlotNo) (r : Record) (l : LiveFields), s.slots[i] = some r → r.live = some l →
      s.classes[r.cls].isSome = true) {x : ScanTag}
    (hx : tagIn (gapWork inp s).slots[s.exposure.gapCursor] = some x) :
    x = inp.tag ∨ (s.exposure.gapExempt[s.exposure.gapCursor] = true
      ∧ tagIn s.slots[s.exposure.gapCursor] = some x) := by
  unfold gapWork at hx
  split at hx
  · rename_i he
    exact .inr ⟨he, hx⟩
  · rw [visitSlot_slots] at hx
    cases hr : s.slots[s.exposure.gapCursor] with
    | none => rw [hr] at hx; cases hx
    | some r =>
      rw [hr, Option.map_some] at hx
      unfold gapVisited at hx
      cases hl : r.live with
      | none =>
        rw [hl] at hx
        rw [tagIn_dead hl] at hx
        cases hx
      | some l =>
        obtain ⟨k, hk⟩ := Option.isSome_iff_exists.mp (hclass _ r l hr hl)
        rw [hl, hk] at hx
        dsimp only at hx
        rw [tagIn_live ((chargeGap_charged hl _ _ _).live hl)] at hx
        cases hx
        exact .inl rfl

/-! ### A step's work -/

theorem Charged.tag {r q : Record} {g : ScanTag} {l : LiveFields} (h : Charged r q g) (hl : r.live = some l) :
    tagIn (some q) = some g :=
  tagIn_live (h.live hl)

theorem takeAboard_samePasses (s : State) (i : SlotNo) (r : Record) : SamePasses s (s.takeAboard i r) := by
  rw [takeAboard_eq]
  refine SamePasses.trans ?_ (Outer.raise _ _).samePasses
  split <;> exact ⟨rfl, rfl, rfl, id, rfl, rfl, rfl, rfl⟩

theorem takeAboard_exempt (s : State) (i : SlotNo) (r : Record) {j : SlotNo} (hj : j ≠ i)
    (h : (s.takeAboard i r).exposure.gapExempt[j] = true) : s.exposure.gapExempt[j] = true := by
  rw [takeAboard_eq, State.raise_exposure] at h
  dsimp only at h
  split at h
  · rwa [put_ne _ _ hj.symm] at h
  · exact h

/-- A step's work leaves the passes. -/
theorem Worked.samePasses {st : StepInProgress} {s u : State} (h : Worked st s u) : SamePasses s u := by
  cases h with
  | @admitted i r cls k c hfree hid hzero hk hc hr => exact takeAboard_samePasses s i r
  | exempted hw he => exact ⟨rfl, rfl, rfl, id, rfl, rfl, rfl, rfl⟩
  | nothing | discarded | moved | offered | offerEnded | closed | statementRead | retired | classSet | switchedOff
    | identitySet | charged | gapCharged => exact .of_eq rfl rfl rfl

/-- The passes after a step's work. -/
theorem Worked.passesRight {st : StepInProgress} {s u : State} (h : Worked st s u) (hs : PassesRight s)
    (hf : FlightTagRight s st) : PassesRight u := by
  cases h with
  | nothing => exact hs
  | @admitted i r cls k c hfree hid hzero hk hc hr =>
    obtain ⟨-, -, n, hl⟩ := admitted_live hr
    have hsame := takeAboard_samePasses s i r
    have hslots : (s.takeAboard i r).slots = put s.slots i (some r) := by
      rw [takeAboard_eq]
      rfl
    refine hs.written hsame hslots (fun j hj => takeAboard_exempt s i r hj) fun g hg => ?_
    rw [tagIn_live hl] at hg
    cases hg
    rcases hf.tag with htag | ⟨htag, hpass, hcursor⟩
    · exact .current (htag.trans hsame.tag.symm)
    · have hgap : s.exposure.gapEnd = none := hs.no_gap (by rw [hs.running.mp hpass]; nofun)
      unfold TagPlaced
      rw [hsame.tag, hsame.passTag, hsame.accrualCursor, hsame.gapEnd, hgap, hcursor]
      refine ⟨.inr htag, fun _ => ⟨fun _ hi => absurd hi (Nat.not_lt_zero _), nofun, fun hp => ?_⟩⟩
      rw [hp] at hpass
      cases hpass
  | @discarded i r l hr hl =>
    exact hs.written_same (i := i) (.of_eq rfl rfl rfl) rfl rfl nofun
  | @moved i r l b hr hl hb =>
    refine hs.written_same (i := i) (.of_eq rfl rfl rfl) rfl rfl fun g hg => ?_
    rw [hr, tagIn_live (aboard_live hl)]
    rw [moveTo_eq hl] at hg
    exact hg
  | @offered i r l own hr hl hroom =>
    refine hs.written_same (i := i) (.of_eq rfl rfl rfl) rfl rfl fun g hg => ?_
    rw [hr, tagIn_live (aboard_live hl)]
    exact hg
  | @offerEnded i r l d lapses hr hl _ =>
    refine hs.written_same (i := i) (.of_eq rfl rfl rfl) rfl rfl fun g hg => ?_
    rw [hr, tagIn_live (offered_live hl)]
    exact hg
  | @closed i r l d k receiver hr hl hunit hk =>
    exact hs.written_same (i := i) (.of_eq rfl rfl rfl) rfl rfl nofun
  | @statementRead i r f hr hf' => exact hs.written_same (i := i) (.of_eq rfl rfl rfl) rfl rfl nofun
  | @retired i r f hr hf' => exact hs.written_same (i := i) (.of_eq rfl rfl rfl) rfl rfl nofun
  | classSet huse hv => exact hs.of_same (.of_eq rfl rfl rfl) rfl rfl
  | switchedOff hw hocc => exact hs.of_same (.of_eq rfl rfl rfl) rfl rfl
  | identitySet hempty => exact hs.of_same (.of_eq rfl rfl rfl) rfl rfl
  | @charged r l k n g hw hg hr hl hk hn htag =>
    refine hs.written (.of_eq rfl rfl rfl) rfl (fun _ _ => id) fun x hx => ?_
    rw [(charge_charged hl _ _ _ _).tag hl] at hx
    cases hx
    exact .current (hs.passTag g hg)
  | gapCharged hw hr hl hk =>
    refine hs.written (.of_eq rfl rfl rfl) rfl (fun _ _ => id) fun x hx => ?_
    rw [(chargeGap_charged hl _ _ _).tag hl] at hx
    cases hx
    exact .current (hs.gapFlight_tag hf hw)
  | exempted hw he =>
    have hsame := (Worked.exempted hw he).samePasses
    refine hs.kept hsame fun i g hg => (hs.placed i g hg).kept hsame fun hi => ?_
    change (put s.exposure.gapExempt s.exposure.gapCursor false)[i] = true at hi
    rw [put_get] at hi
    split at hi
    · cases hi
    · exact hi

/-- The state after the end of a step. -/
theorem Finished.tagsRight {st : StepInProgress} {s u t : State} (h : Finished st u t) (hwork : Worked st s u)
    (hvisit : Visited st s u) (hs : PassesRight s) (hf : FlightTagRight s st) (hpower : s.power = .present)
    (hclass : ∀ (i : SlotNo) (r : Record) (l : LiveFields), s.slots[i] = some r → r.live = some l →
      s.classes[r.cls].isSome = true) : TagsRight t := by
  have hu := hwork.passesRight hs hf
  have hsame := hwork.samePasses
  have hfree : ∀ v : State, Outer u.freeEngine v →
      PassesRight v ∧ SamePasses s v ∧ v.slots = u.slots ∧ v.engine = none := by
    intro v hv
    have huv : SamePasses u v := SamePasses.trans (t := u.freeEngine) (.of_eq rfl rfl rfl) hv.samePasses
    refine ⟨hu.of_same huv ?_ hv.slots, hsame.trans huv, hv.slots, hv.engine⟩
    obtain ⟨_, _, _, _, rfl⟩ := hv
    rfl
  cases h with
  | port hw h =>
    obtain ⟨hv, -, -, he⟩ := hfree _ h
    exact .of_idle hv he
  | @accrual v hw h =>
    obtain ⟨hv, hsv, hslots, he⟩ := hfree _ h
    obtain ⟨hpass, hsnap⟩ := hf.accrual hw
    refine hv.accrualAdvance (hsv.power.trans hpower) (by rw [hsv.passTag]; exact hpass) he fun i x hi hx => ?_
    obtain ⟨g, hg⟩ := Option.isSome_iff_exists.mp hpass
    rw [hslots, hi, hsv.accrualCursor, hvisit.accrual hw] at hx
    rw [hsv.tag, ← hs.passTag g hg]
    exact accrualWork_current hg (fun i r l hr hl => ⟨hclass i r l hr hl, hsnap i r l hr hl⟩) hx
  | @gap v hw h =>
    obtain ⟨hv, hsv, hslots, he⟩ := hfree _ h
    have hgap := hf.gap hw
    refine hv.gapAdvance (hsv.power.trans hpower) (by rw [hsv.gapEnd]; exact hgap) he fun i x hi hx => ?_
    rw [hslots, hi, hsv.gapCursor, hvisit.gap hw] at hx
    rw [hsv.tag]
    rcases gapWork_current hclass hx with rfl | ⟨hexempt, hx⟩
    · exact hs.gapFlight_tag hf hw
    · exact ((hs.placed _ x hx).2 hpower).2.1 hgap (.inr hexempt)

/-! ### Power -/

/-- With main power lost no pass is in flight, and only the nearness of the tags is left. -/
theorem powerDown_tagsRight {s : State}
    (h : ∀ (i : SlotNo) (g : ScanTag), tagIn s.slots[i] = some g → g = s.scanner.tag ∨ g = s.scanner.tag - 1) :
    TagsRight s.powerDown :=
  .of_idle ⟨fun i g hg => ⟨h i g hg, nofun⟩, ⟨nofun, nofun⟩, nofun, nofun⟩ rfl

theorem PassesRight.near {s : State} (h : PassesRight s) (i : SlotNo) (g : ScanTag) (hg : tagIn s.slots[i] = some g) :
    g = s.scanner.tag ∨ g = s.scanner.tag - 1 :=
  (h.placed i g hg).1

/-- A resume start begins the gap pass at slot 0, with no slot exempt. -/
theorem resumed_tagsRight {s : State}
    (h : ∀ (i : SlotNo) (g : ScanTag), tagIn s.slots[i] = some g → g = s.scanner.tag ∨ g = s.scanner.tag - 1) :
    TagsRight s.resumed := by
  have hexempt : s.resumed.exposure.gapExempt = Vector.replicate 128 false := rfl
  have hcursor : s.resumed.exposure.gapCursor = 0 := rfl
  refine tagsRight_iff.mpr ⟨⟨fun i g hg => ⟨h i g hg, fun _ => ⟨nofun, fun _ hi => ?_, nofun⟩⟩, ?_, nofun, ?_⟩, ?_⟩
  · rw [hexempt, hcursor] at hi
    rcases hi with hi | hi
    · exact absurd hi (Nat.not_lt_zero _)
    · simp at hi
  · exact ⟨nofun, nofun⟩
  · exact fun _ => ⟨rfl, rfl⟩
  · rintro st hst
    cases hst
    exact ⟨.inl rfl, nofun, fun _ => rfl⟩

theorem blank_tagsRight {s : State} (hslots : s.slots = Vector.replicate 128 none) (he : s.engine = none)
    (hpass : s.exposure = .initial) (hphase : s.scanner.phase = .idle) : TagsRight s := by
  refine .of_idle ⟨fun i g hg => ?_, ?_, ?_, ?_⟩ he
  · rw [hslots] at hg
    simp [tagIn] at hg
  · rw [hpass, hphase]
    exact ⟨nofun, nofun⟩
  · rw [hpass]
    nofun
  · rw [hpass]
    nofun

/-! ### Every command -/

theorem shift_tag (d : BitVec 32) (r : Record) : tagIn (some (r.shift d)) = tagIn (some r) := by
  rw [Record.shift_eq]
  unfold tagIn Record.live Custody.shift
  cases hc : r.custody <;> simp [Custody.live, hc]

theorem shiftClock_tag (s : State) (v : RouteTime) (i : SlotNo) :
    tagIn (s.shiftClock v).slots[i] = tagIn s.slots[i] := by
  rw [State.shiftClock_slots, shiftNamed_get]
  split
  · cases s.slots[i] with
    | none => rfl
    | some r => exact shift_tag _ r
  · rfl

theorem shiftClock_samePasses (s : State) (v : RouteTime) : SamePasses s (s.shiftClock v) := by
  refine ⟨rfl, rfl, rfl, fun h => ?_, rfl, rfl, ?_, rfl⟩
  · show s.scanner.nextTick.map _ = none
    rw [h]
    rfl
  · exact Option.isSome_map

/-- A grant reads the current tag, and an accrual visit's the snapshots of every live record's compartment. -/
theorem granted_flight {s : State} {r : Requester} {w : StepWork} (hr : s.mayGrant r = true)
    (haccrual : w = .accrual → r = .accrual) (hgap : w = .gap → r = .gap) (hu : RecordsUse s) (hc : CompsRight s) :
    FlightTagRight s { work := w, inputs := s.inputs, discarded := false } := by
  obtain ⟨hpower, -, -, hfind⟩ := mayGrant_iff.mp hr
  have hwaits : s.stepWaiting r = true := List.find?_some hfind
  refine ⟨.inl rfl, fun hw => ?_, fun hw => ?_⟩
  · rw [haccrual hw] at hwaits
    refine ⟨hwaits, fun i q l hq hl => ?_⟩
    exact ((hc q.comp).2 hpower).trans (hu i q l hq hl).2
  · rw [hgap hw] at hwaits
    exact hwaits

theorem Outer.tagsRight {s t : State} (h : Outer s t) (hs : TagsRight s) : TagsRight t := by
  obtain ⟨_, _, _, _, rfl⟩ := h
  exact hs.of_same (.of_eq rfl rfl rfl) rfl rfl rfl

theorem recordOutcome_samePasses (s : State) (n : ProbeNo) (o : PollOutcome) :
    SamePasses s (s.recordOutcome n o) ∧ (s.recordOutcome n o).slots = s.slots
      ∧ (s.recordOutcome n o).engine = s.engine := by
  unfold State.recordOutcome
  split <;> exact ⟨.of_eq rfl rfl rfl, rfl, rfl⟩

/-- With no pass in flight nothing of it is in a state with the same slots and passes. -/
theorem NoPass.of_same {s t : State} (h : NoPass s) (hsame : SamePasses s t) (hslots : t.slots = s.slots) : NoPass t := by
  obtain ⟨hp, hg, hcurrent⟩ := h
  refine ⟨hsame.passTag.trans hp, ?_, fun i g hi => ?_⟩
  · simpa [hg] using hsame.gapEnd
  · rw [hslots] at hi
    exact (hcurrent i g hi).trans hsame.tag.symm

theorem Changed.tagsRight {c : Instr} {s t : State} (h : Changed c s t) (hs : TagsRight s) (hu : UseRight s)
    (hc : CompsRight s) : TagsRight t := by
  obtain ⟨hp, hf⟩ := tagsRight_iff.mp hs
  cases h with
  | outer h => exact h.tagsRight hs
  | discarded h =>
    refine h.tagsRight (tagsRight_iff.mpr ⟨hp.of_same (.of_eq rfl rfl rfl) rfl rfl, fun st hst => ?_⟩)
    obtain ⟨st', hst', rfl⟩ := Option.map_eq_some_iff.mp hst
    obtain ⟨h1, h2, h3⟩ := hf st' hst'
    exact ⟨h1, h2, h3⟩
  | @granted _ r w hr haccrual hgap hport h =>
    refine h.tagsRight (tagsRight_iff.mpr ⟨hp.of_same (.of_eq rfl rfl rfl) rfl rfl, fun st hst => ?_⟩)
    cases hst
    exact (granted_flight hr haccrual hgap hu.1 hc).of_same (.of_eq rfl rfl rfl) rfl
  | ended hpower hst hwork h hvisit =>
    exact h.tagsRight hwork hvisit hp (hf _ hst) hpower fun i r l hr hl => (hu.1 i r l hr hl).1
  | stored _ ha h => exact h.tagsRight (hs.of_same (.of_eq rfl rfl rfl) rfl rfl rfl)
  | defrosted ha hf h => exact h.tagsRight (hs.of_same (.of_eq rfl rfl rfl) rfl rfl rfl)
  | periodSet h =>
    exact h.tagsRight (hs.of_same ⟨rfl, rfl, rfl, id, rfl, rfl, rfl, rfl⟩ rfl rfl rfl)
  | timeoutSet h => exact h.tagsRight (hs.of_same (.of_eq rfl rfl rfl) rfl rfl rfl)
  | @clockSet _ v he h =>
    refine h.tagsRight (.of_idle (hp.kept (shiftClock_samePasses s v) fun i g hg => ?_) he)
    rw [shiftClock_tag] at hg
    exact (hp.placed i g hg).kept (shiftClock_samePasses s v) id
  | second hc => exact hs.of_same (.of_eq rfl rfl rfl) rfl rfl rfl
  | lineSet k b => exact hs.of_same (.of_eq rfl rfl rfl) rfl rfl rfl
  | doorOpened _ => exact hs.of_same (.of_eq rfl rfl rfl) rfl rfl rfl
  | doorShut _ => exact hs.of_same (.of_eq rfl rfl rfl) rfl rfl rfl
  | doorLong h => exact h.tagsRight (hs.of_same (.of_eq rfl rfl rfl) rfl rfl rfl)
  | @ticked tick hpower htick hidle =>
    have hgap : s.exposure.gapEnd = none := by
      rw [← Option.not_isSome_iff_eq_none]
      intro hg
      rw [(hp.gap hg).2] at htick
      cases htick
    have hno := hp.noPass hpower (hp.no_pass (by rw [hidle]; nofun)) hgap
    refine NoPass.startScan (s := s.takeTick tick) ⟨hno.passTag, hno.gapEnd, hno.current⟩ fun st hst => ?_
    obtain ⟨htag, hwork⟩ := hno.flight (hf st hst)
    exact ⟨htag, hwork⟩
  | @missed tick hpower htick hbusy =>
    refine (Outer.raise _ _).tagsRight (hs.of_same ⟨rfl, rfl, rfl, fun hn => ?_, rfl, rfl, rfl, rfl⟩ rfl rfl rfl)
    rw [htick] at hn
    cases hn
  | @polled n rest o hpower hphase =>
    have hno := hp.noPass hpower (hp.no_pass (by rw [hphase]; nofun)) (hp.no_gap (by rw [hphase]; nofun))
    obtain ⟨hsame, hslots, he⟩ := recordOutcome_samePasses s n o
    have hno' := hno.of_same hsame hslots
    refine NoPass.formIfPolled ⟨hno'.passTag, hno'.gapEnd, hno'.current⟩ ?_ fun st hst => ?_
    · show (s.recordOutcome n o).scanner.phase ≠ .charging
      rw [hsame.phase, hphase]
      nofun
    · obtain ⟨htag, hwork⟩ := hno.flight (hf st (he ▸ hst))
      exact ⟨htag.trans hsame.tag.symm, hwork⟩
  | powerLost _ hu =>
    rcases hu with rfl | ⟨st, hst, hwork⟩
    · exact powerDown_tagsRight hp.near
    · exact powerDown_tagsRight (hwork.passesRight hp (hf st hst)).near
  | resumed => exact resumed_tagsRight hp.near
  | blankStarted => exact blank_tagsRight rfl rfl rfl rfl
  | resumeCut _ hC => exact powerDown_tagsRight hp.near
  | blankCut => exact blank_tagsRight rfl rfl rfl rfl
  | unmarked => exact hs.of_same (.of_eq rfl rfl rfl) rfl rfl rfl

/-! ### Charged at most once (R89) -/

theorem applyReached_figures (reached : List ReasonCause) (r : Record) :
    (applyReached reached r).1.warm = r.warm ∧ (applyReached reached r).1.cold = r.cold
      ∧ (applyReached reached r).1.excursion = r.excursion ∧ (applyReached reached r).1.blind = r.blind := by
  unfold applyReached
  dsimp only
  split <;> exact ⟨rfl, rfl, rfl, rfl⟩

/-- The figures that an accrual pass charges, blind seconds among them outside a gap pass. -/
def FiguresMoved (s : State) (r q : Record) : Prop :=
  q.warm ≠ r.warm ∨ q.cold ≠ r.cold ∨ q.excursion ≠ r.excursion ∨ (q.blind ≠ r.blind ∧ s.exposure.gapEnd = none)

theorem not_figuresMoved {s : State} {r q : Record} (hwarm : q.warm = r.warm) (hcold : q.cold = r.cold)
    (hexcursion : q.excursion = r.excursion) (hblind : q.blind = r.blind ∨ s.exposure.gapEnd.isSome = true) :
    ¬ FiguresMoved s r q := by
  rintro (h | h | h | ⟨h, hg⟩)
  · exact h hwarm
  · exact h hcold
  · exact h hexcursion
  · rcases hblind with hb | hb
    · exact h hb
    · rw [hg] at hb
      cases hb

/-- A step's write moves a live record's figures only by a charge of the accrual pass. -/
theorem Written.charged_once {st : StepInProgress} {s : State} {i : SlotNo} {r q : Record} {l : LiveFields}
    (h : Written st s i (some q)) (hs : PassesRight s) (hf : FlightTagRight s st) (hr : s.slots[i] = some r)
    (hl : r.live = some l) (hmoved : FiguresMoved s r q) :
    s.exposure.passTag = some s.scanner.tag ∧ l.tag ≠ s.scanner.tag
      ∧ ∃ l' : LiveFields, q.live = some l' ∧ l'.tag = s.scanner.tag := by
  cases h with
  | admitted hfree =>
    rw [hfree] at hr
    cases hr
  | moved hr' hl' =>
    cases hr.symm.trans hr'
    rw [moveTo_eq hl'] at hmoved
    exact absurd hmoved (not_figuresMoved rfl rfl rfl (.inl rfl))
  | offered hr' hl' =>
    cases hr.symm.trans hr'
    exact absurd hmoved (not_figuresMoved rfl rfl rfl (.inl rfl))
  | offerEnded hr' hl' _ =>
    cases hr.symm.trans hr'
    exact absurd hmoved (not_figuresMoved rfl rfl rfl (.inl rfl))
  | closed hr' hl' hunit hk =>
    cases hr.symm.trans hr'
    exact absurd hmoved (not_figuresMoved rfl rfl rfl (.inl rfl))
  | statementRead hr' hf' =>
    cases hr.symm.trans hr'
    exact absurd hmoved (not_figuresMoved rfl rfl rfl (.inl rfl))
  | charged hg hr' hl' hk hn htag =>
    cases hr.symm.trans hr'
    cases hl.symm.trans hl'
    cases hs.passTag _ hg
    exact ⟨hg, htag, _, (charge_charged hl _ _ _ _).live hl, rfl⟩
  | @gapCharged r' l' k hw hr' hl' hk =>
    cases hr.symm.trans hr'
    rw [chargeGap_eq hl'] at hmoved
    obtain ⟨hwarm, hcold, hexcursion, -⟩ := applyReached_figures
      (blindTest k (satAdd Config.maxSeconds r.blind s.exposure.gapAmount.toNat))
      { r with
        blind := satAdd Config.maxSeconds r.blind s.exposure.gapAmount.toNat, custody := r.custody.retag st.inputs.tag }
    exact absurd hmoved (not_figuresMoved hwarm hcold hexcursion (.inr (hf.gap hw)))

theorem chargedOncePerTag : ChargedOncePerTag := by
  intro i r q l s t hs hr hl hstep hq hmoved
  have hmoved : FiguresMoved s r q := hmoved
  have hsame : ∀ q' : Record, q = q' → q'.warm = r.warm → q'.cold = r.cold → q'.excursion = r.excursion →
      q'.blind = r.blind → False := by
    rintro _ rfl h1 h2 h3 h4
    exact not_figuresMoved h1 h2 h3 (.inl h4) hmoved
  rcases step_changed hstep with rfl | ⟨c, pending, -, h⟩
  · cases hr.symm.trans hq
    exact (hsame r rfl rfl rfl rfl rfl).elim
  · obtain ⟨hp, hf⟩ := tagsRight_iff.mp hs
    rcases h.slotsChanged.get i with hi | ⟨st, hst, hi⟩ | ⟨r', d, hr', hi⟩ | hi
    · cases (hi.trans hr).symm.trans hq
      exact (hsame r rfl rfl rfl rfl rfl).elim
    · rw [hq] at hi
      exact Written.charged_once (s := s.withPending pending) hi
        (hp.of_same (.of_eq rfl rfl rfl) rfl rfl) ((hf st hst).of_same (.of_eq rfl rfl rfl) rfl) hr hl hmoved
    · cases hr.symm.trans hr'
      cases hi.symm.trans hq
      refine (hsame _ rfl ?_ ?_ ?_ ?_).elim <;> rw [Record.shift_eq]
    · rw [hi] at hq
      cases hq

/-- Settles O60: the pass in flight visits the slots in order and leaves the current tag behind it, a gap visit likewise,
and only a forming with no pass in flight advances the tag. -/
theorem everyStepKeepsChargedTags : Obligations.EveryStepKeepsChargedTags := by
  refine ⟨fun s t hs hu hc hstep => ?_, chargedOncePerTag⟩
  rcases step_changed hstep with rfl | ⟨c, q, -, h⟩
  · exact hs
  · exact h.tagsRight (s := s.withPending q) (hs.of_same (.of_eq rfl rfl rfl) rfl rfl rfl) hu hc

end Sys2Proof.Machine
end

section
/-!
PROOFS. One step and the reset state (R158, R169), and the closes of the direct commands' frames (R162, R169, R170, R174,
R175).
-/
namespace Sys2Proof.Machine

/-! ### One step -/

theorem Outer.pending {s t : State} (h : Outer s t) : t.pending = s.pending := by
  obtain ⟨_, _, _, _, rfl⟩ := h
  rfl

theorem Scanned.pending {s t : State} (h : Scanned s t) : t.pending = s.pending := by
  obtain ⟨_, _, _, _, _, _, _, _, _, rfl⟩ := h
  rfl

theorem Worked.pending {st : StepInProgress} {s u : State} (h : Worked st s u) : u.pending = s.pending := by
  cases h with
  | admitted => rw [takeAboard_eq]; rfl
  | nothing | discarded | moved | offered | offerEnded | closed | statementRead | retired | classSet | switchedOff
    | identitySet | charged | gapCharged | exempted => rfl

theorem Changed.pending {c : Instr} {s t : State} (h : Changed c s t) : t.pending = s.pending := by
  cases h with
  | outer h => exact h.pending
  | discarded h => exact h.pending
  | granted _ _ _ _ h => exact h.pending
  | ended _ hst hwork h =>
    obtain ⟨v, hv, ht⟩ := h.scanned
    exact (ht.pending.trans hv.pending).trans hwork.pending
  | stored _ _ h => exact h.pending
  | defrosted _ _ h => exact h.pending
  | periodSet h => exact h.pending
  | timeoutSet h => exact h.pending
  | clockSet _ h => exact h.pending
  | doorLong h => exact h.pending
  | ticked => exact (Scanned.startScan _).pending
  | polled => exact (Scanned.endPoll _ _ _ _).pending
  | powerLost _ hu =>
    rcases hu with rfl | ⟨st, -, hwork⟩
    · rfl
    · exact hwork.pending
  | second | lineSet | doorOpened | doorShut | missed | resumed | blankStarted | resumeCut | blankCut | unmarked => rfl

/-- Every command answers a next state. -/
theorem exec_next (c : Instr) (s : State) : ∃ t : State, exec c s = .next t := by
  cases c <;> exact ⟨_, rfl⟩

theorem everyCommandAnswersANextState : EveryCommandAnswersANextState := by
  intro c s
  obtain ⟨t, ht⟩ := exec_next c s
  exact ⟨t, ht, (exec_changed ht).pending⟩

theorem stepTakesFrontCommand : StepTakesFrontCommand := fun _ _ _ => ⟨rfl, rfl⟩

/-- Settles O1: the step by its definition, the queue since no command's change touches it. -/
theorem stepRunsTheFrontCommand : Obligations.StepRunsTheFrontCommand :=
  ⟨stepTakesFrontCommand, everyCommandAnswersANextState⟩

/-! ### The reset state -/

theorem reset_slots (i : SlotNo) : State.reset.slots[i] = none := by
  simp [State.reset]

theorem reset_classes (k : ClassNo) : State.reset.classes[k] = none := by
  simp [State.reset]

theorem reset_comps (c : CompNo) : State.reset.comps[c] = .initial := by
  simp [State.reset]

theorem reset_probes (n : ProbeNo) : State.reset.probes[n] = .outOfService := by
  simp [State.reset]

theorem reset_port (p : PortId) : State.reset.port p = .started retentionLostOnly := by
  cases p <;> rfl

theorem initial_compRight : CompRight .initial := by
  refine ⟨Nat.le_refl _, Nat.le_refl _, nofun, nofun, nofun, fun _ => ?_⟩
  exact ⟨rfl, rfl, rfl, rfl, rfl, rfl, rfl, rfl⟩

/-- With nothing in progress no requester waits. -/
theorem reset_stepWaiting (r : Requester) : State.reset.stepWaiting r = false := by
  cases r <;> rfl

/-- Settles O2, field by field. -/
theorem resetHasTheBlankStartValues : Obligations.ResetHasTheBlankStartValues := by
  refine ⟨rfl, rfl, rfl, rfl, rfl, rfl, reset_slots, fun k => ⟨?_, reset_classes k⟩, fun c => ⟨?_, ?_⟩, rfl, rfl, rfl,
    rfl, rfl, rfl, rfl, rfl, rfl, rfl, rfl, fun n => ?_, rfl, rfl, rfl, fun i => ?_, fun p => ?_, rfl, rfl, rfl,
    reset_stepWaiting⟩
  · simp [State.reset]
  · simp [State.reset]
  · rw [reset_comps]
    exact ⟨rfl, rfl, rfl, initial_compRight⟩
  · rw [reset_probes]
    exact ⟨rfl, rfl⟩
  · simp [State.reset, ExposureEngine.initial]
  · rw [State.readyLine, reset_port]
    exact ⟨rfl, rfl, rfl, rfl, rfl, rfl, rfl⟩

theorem reset_idsRight : IdsRight State.reset := by
  refine ⟨fun i r hr => ?_, fun i j r q hr => ?_⟩ <;> rw [reset_slots] at hr <;> cases hr

theorem reset_useRight : UseRight State.reset := by
  refine ⟨fun i r l hr => ?_, nofun⟩
  rw [reset_slots] at hr
  cases hr

/-- A property of every record holds of the empty table. -/
theorem reset_records {P : SlotNo → Record → Prop} (i : SlotNo) (r : Record) (hr : State.reset.slots[i] = some r) :
    P i r := by
  rw [reset_slots] at hr
  cases hr

theorem reset_portsRight : PortsRight State.reset := by
  have hidle : ∀ p : PortId, (State.reset.port p).phase = .idle := fun p => by rw [reset_port]; rfl
  refine ⟨fun p cmd => ?_, ?_, nofun, fun p fr n hfr => ?_, nofun, nofun, nofun, nofun⟩
  · rw [hidle]
    exact ⟨nofun, fun ⟨st, hst, _⟩ => nomatch hst⟩
  · exact ⟨nofun, nofun⟩
  · rw [reset_port] at hfr
    cases hfr

theorem reset_compsRight : CompsRight State.reset := by
  intro c
  rw [reset_comps]
  exact ⟨initial_compRight, fun _ => rfl⟩

theorem reset_rangesRight : RangesRight State.reset := by
  refine ⟨fun c => ?_, ⟨⟨by decide, by decide⟩, ⟨by decide, by decide⟩, by decide, ?_, nofun⟩, defaultTimeout_right, nofun⟩
  · rw [reset_comps]
    exact ⟨⟨by decide, by decide, by decide, by decide, by decide, ⟨by decide, by decide⟩, by decide, by decide⟩,
      by decide, ⟨by decide, by decide⟩, nofun⟩
  · exact ⟨nofun, fun h => absurd rfl h⟩

theorem reset_tempsRight : TempsRight State.reset := by
  refine ⟨fun n => ?_, fun c => ?_, reset_records, nofun⟩
  · rw [reset_probes]
    exact nofun
  · rw [reset_comps]
    exact ⟨nofun, nofun⟩

theorem reset_offersRight : OffersRight State.reset :=
  offersRight_iff.mpr ⟨Nat.zero_le _, List.nodup_nil, fun o => by simp [State.reset, dueIn]⟩

/-- Settles O3: the table is empty, the compartments are OFF and nothing is in progress. -/
theorem resetMeetsEveryInvariant : Obligations.ResetMeetsEveryInvariant := by
  refine ⟨List.Perm.refl _, reset_idsRight, reset_countsRight, reset_useRight, fun k v hv => ?_, reset_compsRight,
    reset_records, reset_records, fun i r f hr => ?_, reset_offersRight, reset_tempsRight, reset_portsRight,
    reset_rangesRight, ⟨fun p c v hv => ?_, fun st p c v hst => ?_⟩, fun i r f hr => ?_,
    List.Pairwise.nil, ⟨fun o ho => ?_, fun st hst => ?_⟩,
    blank_tagsRight rfl rfl rfl rfl⟩
  · rw [reset_classes] at hv
    cases hv
  · rw [reset_slots] at hr
    cases hr
  · rw [reset_port] at hv
    cases hv
  · cases hst
  · rw [reset_slots] at hr
    cases hr
  · cases ho
  · cases hst

/-! ### The close of a direct command's frame -/

theorem endFrame_recordRefusal (s : State) (p : PortId) (r : RefusalCode) (code : Byte) (count : Nat) :
    (s.endFrame p).recordRefusal p r code count = s.refusedWith p r code count := by
  simp [State.endFrame, State.recordRefusal, State.refusedWith, Config.maxRefusedCount]

section
variable {s : State} {p : PortId} {row : CommandRow} {count : Nat} {ref acc : State → State}

/-- A close of another length is refused. -/
theorem closeFrame_length (h : s.frameOpen p row.code) (hcount : count ≠ row.length) :
    closeFrame row p count false ref acc s = ref (s.refusedWith p .frameLength row.code count) := by
  rw [closeFrame_refused h.openFrame_code (frameTest_length hcount), endFrame_recordRefusal]

/-- A direct command that both ports may send passes at its length. -/
theorem closeFrame_direct (h : s.frameOpen p row.code) (hcount : count = row.length)
    (hrow : row.queued = false ∧ row.permits p = true) :
    closeFrame row p count false ref acc s = acc (s.endFrame p) := by
  refine closeFrame_accepted h.openFrame_code ((frameTest_none _ _ _ _ _).mpr ⟨hcount, hrow.2, rfl, fun hq => ?_⟩)
  rw [hrow.1] at hq
  cases hq

end

theorem State.frameIs.frameOpen {s : State} {p : PortId} {code : Byte} {capture : Capture}
    (h : s.frameIs p code capture) : s.frameOpen p code := by
  obtain ⟨hpower, hframe⟩ := h
  exact ⟨hpower, by rw [hframe]; rfl⟩

theorem State.frameIs.capture {s : State} {p : PortId} {code : Byte} {capture : Capture}
    (h : s.frameIs p code capture) : s.capture p = some capture := by
  obtain ⟨hpower, hframe⟩ := h
  simp [State.capture, State.openFrame, State.powered, hpower, hframe]

theorem portStatusCloseClearsTheRefusal : PortStatusCloseClearsTheRefusal := by
  intro p count s h
  rw [show exec (.readPortStatus p count) s = .next (closeFrame rowReadPortStatus p count false id
    (fun s => s.setPort p { s.port p with lastRefusal := none }) s) from rfl]
  split
  · rename_i hcount
    rw [closeFrame_direct (row := rowReadPortStatus) h hcount ⟨rfl, by cases p <;> rfl⟩]
    simp [State.endFrame]
  · rename_i hcount
    rw [closeFrame_length (row := rowReadPortStatus) h hcount]
    rfl

/-- READ RESULT at its close, by what its read captured. -/
theorem exec_readResult_eq {p : PortId} {count n : Nat} {found : FoundResult} {s : State}
    (h : s.frameIs p 0x04 (.result found n)) :
    exec (.readResult p count) s
      = .next (closeFrame (rowReadResultOf n) p count false id (fun s => s.takeResult p found) s) := by
  show Host.Outcome.next (match s.capture p with
     | some (.result found n) => closeFrame (rowReadResultOf n) p count false id (fun s => s.takeResult p found) s
     | _ => s) = _
  rw [h.capture]

theorem readResultTakesWhatItFound : ReadResultTakesWhatItFound := by
  intro p count n found s h
  rw [exec_readResult_eq h]
  by_cases hcount : count = 5 + n
  · rw [if_neg (not_not_intro hcount),
      closeFrame_direct (row := rowReadResultOf n) h.frameOpen hcount ⟨rfl, by cases p <;> rfl⟩]
    cases found with
    | waiting => simp [State.takeResult, State.setPhase, State.endFrame, State.closedInto]
    | notReady => rfl
    | empty => simp [State.takeResult, State.endFrame, Port.raise, emptyReadFlag]
  · rw [if_pos hcount, closeFrame_length (row := rowReadResultOf n) h.frameOpen hcount]
    rfl

/-- Settles O6, by the length of each close. -/
theorem statusAndResultClose : Obligations.StatusAndResultClose :=
  ⟨portStatusCloseClearsTheRefusal, readResultTakesWhatItFound⟩

/-! ### POLL FLAGS -/

/-- POLL FLAGS at its close, by what its read captured. -/
theorem exec_pollFlags_eq {p : PortId} {count : Nat} {returned raised : FlagSet} {s : State}
    (h : s.frameIs p 0x02 (.poll returned raised)) :
    exec (.pollFlags p count) s
      = .next (closeFrame rowPollFlags p count false id
          (fun s => s.setPort p { s.port p with flags := flagsAfterPoll (s.port p).flags returned raised }) s) := by
  show Host.Outcome.next (match s.capture p with
     | some (.poll returned raised) =>
       closeFrame rowPollFlags p count false id
         (fun s => s.setPort p { s.port p with flags := flagsAfterPoll (s.port p).flags returned raised }) s
     | _ => s) = _
  rw [h.capture]

/-- A close of its length leaves the flags not returned and those raised since. -/
theorem exec_pollFlags_passes {p : PortId} {returned raised : FlagSet} {s : State}
    (h : s.frameIs p 0x02 (.poll returned raised)) :
    exec (.pollFlags p 6) s = .next
      (s.setPort p { s.port p with frame := none, flags := flagsAfterPoll (s.port p).flags returned raised }) := by
  rw [exec_pollFlags_eq h, closeFrame_direct (row := rowPollFlags) h.frameOpen (count := 6) rfl
    ⟨rfl, by cases p <;> rfl⟩]
  simp [State.endFrame]

theorem flagsAfterPoll_getLsbD (flags returned raised : FlagSet) (i : Nat) :
    (flagsAfterPoll flags returned raised).getLsbD i
      = (flags.getLsbD i && (!returned.getLsbD i || raised.getLsbD i)) := by
  unfold flagsAfterPoll
  rcases Nat.lt_or_ge i 38 with hi | hi
  · simp [hi]
  · simp [BitVec.getLsbD_of_ge flags i hi]

/-- What was raised since the read is what is left of the flags returned. -/
theorem flagsAfterPoll_raised (flags raised : FlagSet) : flagsAfterPoll (flags ||| raised) flags raised = raised := by
  refine BitVec.eq_of_getLsbD_eq fun i _ => ?_
  rw [flagsAfterPoll_getLsbD, BitVec.getLsbD_or]
  cases flags.getLsbD i <;> cases raised.getLsbD i <;> rfl

theorem pollCloseClearsWhatItReturned : PollCloseClearsWhatItReturned := by
  intro p count returned raised s h
  refine ⟨fun hcount => ?_, ?_⟩
  · rw [exec_pollFlags_eq h, closeFrame_length (row := rowPollFlags) h.frameOpen hcount]
    rfl
  · rintro rfl
    exact ⟨_, exec_pollFlags_passes h, flagsAfterPoll_getLsbD _ _ _⟩

/-- The read of POLL FLAGS opens its frame. -/
theorem exec_frameRead_poll {p : PortId} {s : State} (hpower : s.power = .present) (hframe : (s.port p).frame = none) :
    exec (.frameRead p 0x02) s
      = .next (s.open p 0x02 (.poll (s.port p).flags 0) (flagBytes (s.port p).flags)) := by
  show Host.Outcome.next (if s.powered && (s.port p).frame.isNone then s.readFrame p 0x02 else s) = _
  rw [if_pos (by simp [State.powered, hpower, hframe])]
  rfl

theorem raise_port (s : State) (f : FlagSet) (p : PortId) : (s.raise f).port p = (s.port p).raise f := by
  cases p <;> rfl

theorem pollLosesNoRaise : PollLosesNoRaise := by
  intro p s s' raised hpower hframe hread
  rw [exec_frameRead_poll hpower hframe] at hread
  cases hread
  have hport : ((s.open p 0x02 (.poll (s.port p).flags 0) (flagBytes (s.port p).flags)).raise raised).port p
      = { s.port p with
          frame := some { code := 0x02, capture := .poll (s.port p).flags raised }
          reply := flagBytes (s.port p).flags, flags := (s.port p).flags ||| raised } := by
    rw [raise_port]
    simp [State.open, Port.raise]
  refine ⟨_, exec_pollFlags_passes (returned := (s.port p).flags) (raised := raised) ⟨?_, ?_⟩, ?_⟩
  · simpa using hpower
  · rw [hport]
  · rw [hport]
    refine ⟨?_, by simp, fun q hq => ?_, by simp, by simp, by simp⟩
    · simpa using flagsAfterPoll_raised _ _
    · rw [State.setPort_port_ne _ _ hq, raise_port, State.open, State.setPort_port_ne _ _ hq]

/-- Settles O4: the close clears of the flags returned those not raised since. -/
theorem pollsLoseNoRaise : Obligations.PollsLoseNoRaise := ⟨pollLosesNoRaise, pollCloseClearsWhatItReturned⟩

end Sys2Proof.Machine
end

section
/-!
PROOFS. Frames: their reads, the closes of CANCEL, PORT RESET and the queued commands, and what each leaves of the other
port (R169, R170, R174 to R177).
-/
namespace Sys2Proof.Machine

/-! ### The read of a frame -/

/-- What the read of a code captures, and the reply it clocks out, when it holds no walk. -/
def Port.readAs (x : Port) (code : Byte) : Capture × List Byte :=
  if code = rowReadPortStatus.code then (.nothing, x.statusBytes)
  else if code = rowPollFlags.code then (.poll x.flags 0, flagBytes x.flags)
  else if code = rowReadResult.code then (.result x.phase.found x.phase.resultLength, x.phase.resultBytes)
  else if code = rowCancel.code then (.cancel false, cancelBytes false)
  else if code = rowPortReset.code then (.nothing, [ResultCode.ok.byte])
  else (.nothing, [])

theorem readFrame_eq {s : State} {p : PortId} {code : Byte} (h : ¬(p = .unit ∧ code = 0x05 ∧ s.moveAll.isSome = true)) :
    s.readFrame p code = s.open p code ((s.port p).readAs code).1 ((s.port p).readAs code).2 := by
  have hcancel : code = rowCancel.code → s.readCancel p = s.open p code (.cancel false) (cancelBytes false) := by
    rintro rfl
    rw [State.readCancel, if_neg]
    intro hmark
    rw [State.cancelMark, Bool.and_eq_true, beq_iff_eq] at hmark
    exact h ⟨hmark.1, rfl, hmark.2⟩
  unfold State.readFrame Port.readAs
  split_ifs with h1 h2 h4 h5 h6
  · rfl
  · rfl
  · rfl
  · exact hcancel h5
  · rfl
  · rfl

theorem exec_frameRead {s : State} {p : PortId} (code : Byte) (hpower : s.power = .present)
    (hframe : (s.port p).frame = none) : exec (.frameRead p code) s = .next (s.readFrame p code) := by
  show Host.Outcome.next (if s.powered && (s.port p).frame.isNone then s.readFrame p code else s) = _
  rw [if_pos (by simp [State.powered, hpower, hframe])]

theorem frameReadCapturesTheReply : FrameReadCapturesTheReply := by
  intro p code s hpower hframe hwalk
  refine ⟨((s.port p).readAs code).1, ((s.port p).readAs code).2, ?_, ?_, ?_, ?_, ?_, ?_, fun hcode => ?_⟩
  · rw [exec_frameRead code hpower hframe, readFrame_eq hwalk]
    rfl
  · rintro rfl
    refine ⟨rfl, ?_⟩
    show (s.port p).statusBytes = _
    unfold Port.statusBytes PortPhase.command
    cases (s.port p).lastRefusal <;> rfl
  · rintro rfl
    exact ⟨rfl, rfl⟩
  · rintro rfl
    have hread : (s.port p).readAs 0x04
        = (.result (s.port p).phase.found (s.port p).phase.resultLength, (s.port p).phase.resultBytes) := rfl
    rw [hread]
    cases (s.port p).phase <;> exact ⟨rfl, rfl⟩
  · rintro rfl
    exact ⟨rfl, rfl⟩
  · rintro rfl
    exact ⟨rfl, rfl⟩
  · simp only [List.mem_cons, List.not_mem_nil, or_false, not_or] at hcode
    obtain ⟨h1, h2, h4, h5, h6⟩ := hcode
    have hread : (s.port p).readAs code = (.nothing, []) := by
      unfold Port.readAs
      exact (if_neg h1).trans ((if_neg h2).trans ((if_neg h4).trans ((if_neg h5).trans (if_neg h6))))
    rw [hread]
    exact ⟨rfl, rfl⟩

theorem heldByCancel_hold (m : MoveAllRecord) : m.heldByCancel = { m with hold := m.heldByCancel.hold } := by
  unfold MoveAllRecord.heldByCancel
  split <;> rfl

/-- A walk held by a CANCEL is not free to go on. -/
theorem heldByCancel_not_free (m : MoveAllRecord) : m.heldByCancel.hold ≠ .free := by
  unfold MoveAllRecord.heldByCancel
  split <;> rename_i h <;> simp [h]

theorem cancelHoldsTheWalkAtItsRead : CancelHoldsTheWalkAtItsRead := by
  intro s m hpower hframe hm
  refine ⟨m.heldByCancel, ?_, heldByCancel_hold m, ?_, ?_, fun t ht hphase => ?_⟩
  · rw [exec_frameRead (p := .unit) 0x05 hpower hframe]
    show Host.Outcome.next (s.readCancel .unit) = _
    rw [State.readCancel, if_pos (by simp [State.cancelMark, hm]), hm]
    rfl
  · intro hold
    rw [MoveAllRecord.heldByCancel, hold]
  · intro hold
    unfold MoveAllRecord.heldByCancel
    split <;> simp_all
  · have hfree := heldByCancel_not_free m
    show t.portWaiting .unit = false
    unfold State.portWaiting
    rw [show (t.port .unit).phase = .waiting .moveAll from hphase]
    dsimp only
    rw [ht, Option.any_some, beq_eq_false_iff_ne]
    exact hfree

/-- Settles O7: the captures by the code, and CANCEL's held walk apart. -/
theorem frameReadsOpenFrames : Obligations.FrameReadsOpenFrames :=
  ⟨frameReadCapturesTheReply, cancelHoldsTheWalkAtItsRead⟩

/-! ### CANCEL's close -/

theorem exec_cancel_eq {s : State} {p : PortId} {mark : Bool} (count : Nat) (h : s.frameIs p 0x05 (.cancel mark)) :
    exec (.cancel p count) s = .next
      (closeFrame rowCancel p count false (if mark = true then State.releaseWalk else id)
        (if mark = true then State.cancelWalk else id) s) := by
  show Host.Outcome.next (match s.capture p with
     | some (.cancel true) => closeFrame rowCancel p count false State.releaseWalk State.cancelWalk s
     | some (.cancel false) => closeFrame rowCancel p count false id id s
     | _ => s) = _
  rw [h.capture]
  cases mark <;> rfl

/-- CANCEL's close at its length, and at another. -/
theorem exec_cancel_passes {s : State} {p : PortId} {mark : Bool} (h : s.frameIs p 0x05 (.cancel mark)) :
    exec (.cancel p 3) s = .next ((if mark = true then State.cancelWalk else id) (s.endFrame p)) := by
  rw [exec_cancel_eq 3 h, closeFrame_direct (row := rowCancel) h.frameOpen (count := 3) rfl ⟨rfl, by cases p <;> rfl⟩]

theorem exec_cancel_refused {s : State} {p : PortId} {mark : Bool} {count : Nat} (h : s.frameIs p 0x05 (.cancel mark))
    (hcount : count ≠ 3) :
    exec (.cancel p count) s
      = .next ((if mark = true then State.releaseWalk else id) (s.refusedWith p .frameLength 0x05 count)) := by
  rw [exec_cancel_eq count h, closeFrame_length (row := rowCancel) h.frameOpen hcount]
  rfl

theorem refusedWith_moveAll (s : State) (p : PortId) (r : RefusalCode) (code : Byte) (count : Nat) :
    (s.refusedWith p r code count).moveAll = s.moveAll := State.setPort_moveAll _ _ _

theorem cancelWalk_none {s : State} (h : s.moveAll = none) : s.cancelWalk = s := by
  rw [State.cancelWalk, h]

theorem releaseWalk_none {s : State} (h : s.moveAll = none) : s.releaseWalk = s := by
  rw [State.releaseWalk, h]

/-- CANCEL's close when it holds no walk: nothing but the frame, or the refusal. -/
theorem exec_cancel_nothing {s : State} {p : PortId} {mark : Bool} (count : Nat) (h : s.frameIs p 0x05 (.cancel mark))
    (hnone : mark = true → s.moveAll = none) :
    exec (.cancel p count) s = .next
      (if count = 3 then s.setPort p { s.port p with frame := none } else s.refusedWith p .frameLength 0x05 count) := by
  split
  · rename_i hcount
    subst hcount
    rw [exec_cancel_passes h]
    split
    · rename_i hmark
      rw [cancelWalk_none]
      · rfl
      · rw [State.endFrame_moveAll]
        exact hnone hmark
    · rfl
  · rename_i hcount
    rw [exec_cancel_refused h hcount]
    split
    · rename_i hmark
      rw [releaseWalk_none]
      rw [refusedWith_moveAll]
      exact hnone hmark
    · rfl

/-- Whether a live slot step of the walk is in progress. -/
theorem walkStepInProgress_iff {s : State} : s.walkStepInProgress = true ↔ ∃ st : StepInProgress,
    s.engine = some st ∧ st.discarded = false ∧ ∃ (a b : Byte) (i : SlotNo), st.work = .moveAllSlot a b i := by
  have hwork : ∀ w : StepWork, w.isMoveAll = true ↔ ∃ (a b : Byte) (i : SlotNo), w = .moveAllSlot a b i := by
    intro w
    cases w <;> simp [StepWork.isMoveAll]
  unfold State.walkStepInProgress
  cases s.engine with
  | none => simp
  | some st =>
    rw [Option.any_some, Bool.and_eq_true, hwork, Bool.not_eq_true']
    constructor
    · rintro ⟨hw, hd⟩
      exact ⟨st, rfl, hd, hw⟩
    · rintro ⟨_, ⟨⟩, hd, hw⟩
      exact ⟨hw, hd⟩

/-- Settles O8, by the mark, the length and the step in progress. -/
theorem cancelCloseEndsOrReleasesTheWalk : Obligations.CancelCloseEndsOrReleasesTheWalk := by
  intro p count mark s h
  refine ⟨?_, ?_, fun m hmark hm => ⟨?_, ?_, fun hcount => ?_⟩⟩
  · rintro rfl
    exact exec_cancel_nothing count h nofun
  · rintro - hnone
    exact exec_cancel_nothing count h fun _ => hnone
  · rintro rfl hidle
    have hno : (s.endFrame p).walkStepInProgress = false := by
      rw [← Bool.not_eq_true, walkStepInProgress_iff, State.endFrame_engine]
      rintro ⟨st, hst, hd, a, b, i, hw⟩
      rcases hidle st hst with hd' | hw'
      · rw [hd] at hd'
        cases hd'
      · exact hw' a b i hw
    rw [exec_cancel_passes h, if_pos hmark, State.cancelWalk, State.endFrame_moveAll, hm]
    dsimp only
    rw [if_neg (by rw [hno]; nofun)]
    rfl
  · rintro st rfl hst hd hw
    have hyes : (s.endFrame p).walkStepInProgress = true := by
      rw [walkStepInProgress_iff, State.endFrame_engine]
      exact ⟨st, hst, hd, hw⟩
    rw [exec_cancel_passes h, if_pos hmark, State.cancelWalk, State.endFrame_moveAll, hm]
    dsimp only
    rw [if_pos hyes]
    rfl
  · rw [exec_cancel_refused h hcount, if_pos hmark, State.releaseWalk, refusedWith_moveAll, hm]
    dsimp only
    cases m.hold <;> rfl

end Sys2Proof.Machine
end

section
/-!
PROOFS. PORT RESET, the refusals of frames, and what a frame leaves of the other port (R169, R170, R177).
-/
namespace Sys2Proof.Machine

/-! ### PORT RESET -/

theorem port_of_eq {s u : State} (hunit : u.unitPort = s.unitPort) (hdock : u.dockPort = s.dockPort) (q : PortId) :
    u.port q = s.port q := by
  cases q
  · exact hunit
  · exact hdock

theorem exec_portReset {s : State} {p : PortId} (h : s.frameOpen p 0x06) :
    exec (.portReset p 2) s = .next ((s.endFrame p).resetPort p) := by
  rw [show exec (.portReset p 2) s = .next (closeFrame rowPortReset p 2 false id (fun s => s.resetPort p) s) from rfl,
    closeFrame_direct (row := rowPortReset) h (count := 2) rfl ⟨rfl, by cases p <;> rfl⟩]

theorem portResetOfAnotherLengthIsRefused : PortResetOfAnotherLengthIsRefused := by
  intro p count s h hcount
  rw [show exec (.portReset p count) s = .next (closeFrame rowPortReset p count false id (fun s => s.resetPort p) s)
    from rfl, closeFrame_length (row := rowPortReset) h hcount]
  rfl

theorem dropMoveAll_eq (s : State) (cmd : PortCommand) :
    s.dropMoveAll cmd = { s with moveAll := if cmd = .moveAll then none else s.moveAll } := by
  cases cmd <;> rfl

/-- What a drop of the command in flight changes: the move-all record and the mark of the step in progress. -/
theorem dropCommand_eq (s : State) (ph : PortPhase) :
    s.dropCommand ph =
      { s with
        moveAll := if ph.inFlight = some .moveAll then none else s.moveAll
        engine := match ph with
          | .working _ => s.engine.map (fun st => { st with discarded := true })
          | _ => s.engine } := by
  cases ph with
  | idle => rfl
  | waiting cmd =>
    rw [State.dropCommand, dropMoveAll_eq]
    simp [PortPhase.inFlight]
  | working cmd =>
    rw [State.dropCommand, dropMoveAll_eq]
    simp [PortPhase.inFlight, State.discardStep]
  | result r => rfl

/-- Whether a walk step of the port is in progress. -/
theorem portWalkInProgress_iff {s : State} {p : PortId} : s.portWalkInProgress p = true ↔ ∃ st : StepInProgress,
    s.engine = some st ∧ ((∃ f : Option WalkFilter, st.work = .port p (.walk f)) ∨ st.work = .port p .walkNext) := by
  have hwork : ∀ w : StepWork, portKind p PortCommand.walks w = true
      ↔ (∃ f : Option WalkFilter, w = .port p (.walk f)) ∨ w = .port p .walkNext := by
    intro w
    cases w with
    | port q cmd => cases cmd <;> simp [portKind, PortCommand.walks]
    | moveAllSlot | accrual | gap | lapse => simp [portKind]
  unfold State.portWalkInProgress
  cases s.engine with
  | none => simp
  | some st => simp [hwork]

theorem endFrame_port (s : State) (p : PortId) : (s.endFrame p).port p = { s.port p with frame := none } :=
  State.setPort_port _ _ _

theorem endFrame_port_ne (s : State) {p q : PortId} (h : q ≠ p) : (s.endFrame p).port q = s.port q :=
  State.setPort_port_ne _ _ h

theorem dropCommand_port (s : State) (ph : PortPhase) (q : PortId) : (s.dropCommand ph).port q = s.port q := by
  rw [dropCommand_eq]
  exact port_of_eq rfl rfl q

theorem resetPort_port (s : State) (p : PortId) :
    (s.resetPort p).port p = (s.port p).afterReset (s.portWalkInProgress p) :=
  State.setPort_port _ _ _

theorem resetPort_port_ne (s : State) {p q : PortId} (h : q ≠ p) : (s.resetPort p).port q = s.port q := by
  rw [State.resetPort, State.setPort_port_ne _ _ h, dropCommand_port]

/-- What a PORT RESET leaves of everything but its port, the step in progress and the move-all record. -/
theorem resetPort_others (s : State) (p : PortId) :
    (s.resetPort p).slots = s.slots ∧ (s.resetPort p).useCount = s.useCount ∧ (s.resetPort p).occupancy = s.occupancy
      ∧ (s.resetPort p).offers = s.offers ∧ (s.resetPort p).classes = s.classes ∧ (s.resetPort p).comps = s.comps
      ∧ (s.resetPort p).clock = s.clock ∧ (s.resetPort p).exposure = s.exposure := by
  rw [State.resetPort, dropCommand_eq]
  simp

theorem resetPort_moveAll (s : State) (p : PortId) :
    (s.resetPort p).moveAll = if (s.port p).phase.inFlight = some .moveAll then none else s.moveAll := by
  rw [State.resetPort, dropCommand_eq, State.setPort_moveAll]

theorem resetPort_engine_working {s : State} {p : PortId} {cmd : PortCommand} (h : (s.port p).phase = .working cmd) :
    (s.resetPort p).engine = s.engine.map (fun st => { st with discarded := true }) := by
  rw [State.resetPort, dropCommand_eq, State.setPort_engine, h]

theorem resetPort_engine_other {s : State} {p : PortId} (h : ∀ cmd : PortCommand, (s.port p).phase ≠ .working cmd) :
    (s.resetPort p).engine = s.engine := by
  rw [State.resetPort, dropCommand_eq, State.setPort_engine]
  cases hphase : (s.port p).phase with
  | working cmd => exact absurd hphase (h cmd)
  | idle | waiting | result => rfl

/-- Settles O9: the command in flight is dropped by the port's phase, and the port is as after a reset. -/
theorem portResetEndsThePortsWork : Obligations.PortResetEndsThePortsWork := by
  intro p s h hs
  have hport : ((s.endFrame p).resetPort p).port p
      = Port.afterReset { s.port p with frame := none } (s.portWalkInProgress p) := by
    rw [resetPort_port, endFrame_port, State.portWalkInProgress, State.endFrame_engine, ← State.portWalkInProgress]
  have hphase : ((s.endFrame p).port p).phase = (s.port p).phase := by rw [endFrame_port]
  refine ⟨_, exec_portReset h, by rw [hport]; rfl, by rw [hport]; rfl, by rw [hport]; rfl, by rw [hport]; rfl,
    by rw [hport]; rfl, fun hidle => ?_, fun cmd hwork => ?_, ?_, fun st hst hwalk => ?_, fun hno => ?_,
    fun q hq => ?_, ?_⟩
  · rw [resetPort_engine_other (by rwa [hphase]), State.endFrame_engine]
  · obtain ⟨hlive, -⟩ := hs
    obtain ⟨st, hst, -⟩ := (hlive p cmd).mp hwork
    refine ⟨st, hst, ?_⟩
    rw [resetPort_engine_working (by rwa [hphase]), State.endFrame_engine, hst]
    rfl
  · rw [resetPort_moveAll, hphase, State.endFrame_moveAll]
  · have hyes := portWalkInProgress_iff.mpr ⟨st, hst, hwalk⟩
    rw [hport, hyes]
    exact ⟨rfl, rfl⟩
  · have hwalk : s.portWalkInProgress p = false := by
      rw [← Bool.not_eq_true, portWalkInProgress_iff]
      rintro ⟨st, hst, ⟨f, hw⟩ | hw⟩
      · exact (hno st hst).1 f hw
      · exact (hno st hst).2 hw
    rw [hport, hwalk]
    exact ⟨rfl, rfl⟩
  · rw [resetPort_port_ne _ hq, endFrame_port_ne _ hq]
  · obtain ⟨h1, h2, h3, h4, h5, h6, h7, h8⟩ := resetPort_others (s.endFrame p) p
    rw [h1, h2, h3, h4, h5, h6, h7, h8]
    simp

/-! ### Refusals -/

theorem knownCode_iff {code : Byte} : knownCode code = true ↔
    code.toNat ∈ [0x01, 0x02, 0x03, 0x04, 0x05, 0x06, 0x10, 0x11, 0x12, 0x14, 0x15, 0x16, 0x18, 0x19, 0x20, 0x21, 0x22,
      0x23, 0x24, 0x28, 0x30, 0x31, 0x38, 0x39, 0x3A, 0x3B, 0x40, 0x41, 0x48, 0x49, 0x4A] := by
  have hcodes : commandTable.map (fun r => r.code.toNat) = [0x01, 0x02, 0x03, 0x04, 0x05, 0x06, 0x10, 0x11, 0x12, 0x14,
      0x15, 0x16, 0x18, 0x19, 0x20, 0x21, 0x22, 0x23, 0x24, 0x28, 0x30, 0x31, 0x38, 0x39, 0x3A, 0x3B, 0x40, 0x41, 0x48,
      0x49, 0x4A] := rfl
  rw [← hcodes, List.mem_map, knownCode, List.any_eq_true]
  refine exists_congr fun r => and_congr_right fun _ => ?_
  rw [beq_iff_eq, BitVec.toNat_inj]

theorem unlistedCodeIsRecordedAsUnknown : UnlistedCodeIsRecordedAsUnknown := by
  intro p count code s h hcode
  obtain ⟨fr, hfr, rfl⟩ := Option.map_eq_some_iff.mp h.openFrame_code
  show Host.Outcome.next (match s.openFrame p with
     | some fr =>
       if knownCode fr.code then s else (s.endFrame p).recordRefusal p .unknownCommand fr.code count
     | none => s) = _
  rw [hfr]
  dsimp only
  rw [if_neg (fun hk => hcode (knownCode_iff.mp hk)), endFrame_recordRefusal]

/-- A queued command's frame is closed by the close that its row gives. -/
structure ClosesAs (c : Instr) (f : QueuedFrame) (row : CommandRow) (forced : Bool) (acc : State → State) : Prop where
  exec : ∀ s : State, exec c s = .next (closeFrame row f.port (f.bytes.length + 1) forced id acc s)
  code : row.code = f.code
  length : row.length = f.length
  queued : row.queued = true
  permitted : (row.permits f.port && !(forced && f.port == .dock)) = f.permitted
  /-- a command that waits for its step is accepted to wait -/
  waits : ∀ cmd : PortCommand, waitsAs c = some cmd → f.bytes.length + 1 = f.length →
    ∀ s : State, acc s = acceptWaiting f.port cmd s
  /-- its acceptance leaves the other port -/
  other : ∀ (s : State) (q : PortId), q ≠ f.port → (acc s).port q = s.port q

theorem setPhase_port_ne (s : State) {p q : PortId} (ph : PortPhase) (h : q ≠ p) : (s.setPhase p ph).port q = s.port q :=
  State.setPort_port_ne s _ h

/-- An acceptance on a state with the same ports leaves the other port. -/
theorem setPhase_port_other {s u : State} {p q : PortId} (ph : PortPhase) (hu : ∀ q : PortId, u.port q = s.port q)
    (h : q ≠ p) : (u.setPhase p ph).port q = s.port q :=
  (setPhase_port_ne u ph h).trans (hu q)

/-- WALK's filter by its compartment byte's number. -/
theorem walkField_eq (bytes : List Byte) : walkField bytes
    = if (byteAt 0 bytes).toNat = 0 then some (filterField none bytes)
      else (compField (byteAt 0 bytes)).map (fun c => filterField (some c) bytes) := by
  unfold walkField
  simp only [← BitVec.toNat_inj]
  rfl

/-- The values of a SET CLASS frame of its length, its one-byte value as a byte. -/
theorem classValues_eq {bytes : List Byte} (h : bytes.length + 1 = 24) : classValues bytes
    = { upper := intAt 2 bytes, hard := intAt 4 bytes, lower := intAt 6 bytes, floor := intAt 8 bytes,
        warmBudget := natAt 10 4 bytes, coldBudget := natAt 14 4 bytes, watchPercent := (byteAt 18 bytes).toNat,
        tolerance := natAt 19 4 bytes } := by
  rw [classValues, natAt_one (by omega)]

/-- The settings of a SET COMPARTMENT frame of its length, their one-byte values as bytes. -/
theorem settingsField_eq {bytes : List Byte} (h : bytes.length + 1 = 12) : settingsField bytes
    = { active := (byteAt 1 bytes).getLsbD 0, simulant := (byteAt 1 bytes).getLsbD 1, air := (byteAt 1 bytes).getLsbD 2,
        airOffset := intAt 2 bytes, holdLimit := (byteAt 4 bytes).toNat, doorLimit := natAt 5 2 bytes,
        ceiling := intAt 7 bytes, shieldBase := (byteAt 9 bytes).toNat,
        recoveryLength := (byteAt 10 bytes).toNat } := by
  rw [settingsField, natAt_one (by omega), natAt_one (by omega), natAt_one (by omega)]

/-- SET COMPARTMENT with mode OFF that names a compartment is accepted to wait. -/
theorem setCompartment_waits {p : PortId} {b : List Byte} {cmd : PortCommand}
    (h : waitsAs (.setCompartment p b) = some cmd) (hlen : b.length + 1 = 12) :
    ∃ c : CompNo, compField (byteAt 0 b) = some c ∧ (settingsField b).active = false
      ∧ cmd = .setCompartmentOff c (settingsField b) := by
  rw [waitsAs] at h
  split at h
  · cases h
  · rename_i hactive
    obtain ⟨c, hc, rfl⟩ := Option.map_eq_some_iff.mp h
    rw [Bool.not_eq_true] at hactive
    refine ⟨c, hc, hactive, ?_⟩
    rw [settingsField_eq hlen, hactive]

theorem queuedFrame_closesAs {c : Instr} {f : QueuedFrame} (h : queuedFrame c = some f) :
    ∃ (row : CommandRow) (forced : Bool) (acc : State → State), ClosesAs c f row forced acc := by
  cases c with
  | admitFresh p b | admitCarried p b | discard p b | find p b | walkNext p b | move p b | moveTrial p b
    | offer p b | withdraw p b | confirm p b | readStatement p b | setClassUnset p b | setUnitId p b =>
    cases h
    refine ⟨_, _, _, fun _ => rfl, rfl, rfl, rfl, by cases p <;> rfl, ?_, fun s q hq => setPhase_port_ne s _ hq⟩
    rintro _ ⟨⟩ - s
    rfl
  | readClass p b | readScan p b | readClock p b =>
    cases h
    exact ⟨_, _, _, fun _ => rfl, rfl, rfl, rfl, by cases p <;> rfl, nofun, fun s q hq => setPhase_port_ne s _ hq⟩
  | walk p b =>
    cases h
    refine ⟨_, _, _, fun _ => rfl, rfl, rfl, rfl, by cases p <;> rfl, ?_, fun s q hq => setPhase_port_ne s _ hq⟩
    rintro _ ⟨⟩ - s
    rw [walkField_eq]
  | setClass p b =>
    cases h
    refine ⟨_, _, _, fun _ => rfl, rfl, rfl, rfl, by cases p <;> rfl, ?_, fun s q hq => setPhase_port_ne s _ hq⟩
    rintro _ ⟨⟩ hlen s
    rw [classValues_eq hlen]
  | retire p b =>
    cases h
    refine ⟨_, _, _, fun _ => rfl, rfl, rfl, rfl, ?_, ?_, fun s q hq => setPhase_port_ne s _ hq⟩
    · cases p <;> simp [QueuedFrame.permitted, CommandRow.permits, rowRetire, forceField]
    · rintro _ ⟨⟩ - s
      rfl
  | moveAll p b | setOfferTimeout p b | setScanPeriod p b =>
    cases h
    exact ⟨_, _, _, fun _ => rfl, rfl, rfl, rfl, by cases p <;> rfl, nofun,
      fun s q hq => setPhase_port_other _ (port_of_eq rfl rfl) hq⟩
  | setCompartment p b =>
    cases h
    refine ⟨_, _, _, fun _ => rfl, rfl, rfl, rfl, by cases p <;> rfl, fun cmd hw hlen s => ?_, fun s q hq => ?_⟩
    · obtain ⟨c, hc, hactive, rfl⟩ := setCompartment_waits hw hlen
      dsimp only
      rw [hc, hactive]
      rfl
    · split
      · exact setPhase_port_ne s _ hq
      · split
        · exact setPhase_port_other _ (port_of_eq rfl rfl) hq
        · exact setPhase_port_ne s _ hq
  | readCompartment p b =>
    cases h
    refine ⟨_, _, _, fun _ => rfl, rfl, rfl, rfl, by cases p <;> rfl, nofun, fun s q hq => ?_⟩
    split <;> exact setPhase_port_ne s _ hq
  | defrostStart p b | defrostEnd p b =>
    cases h
    refine ⟨_, _, _, fun _ => rfl, rfl, rfl, rfl, by cases p <;> rfl, nofun, fun s q hq => ?_⟩
    unfold defrostCommand
    split
    · exact setPhase_port_other _ (port_of_eq rfl rfl) hq
    · exact setPhase_port_ne s _ hq
  | setClock p b =>
    cases h
    refine ⟨_, _, _, fun _ => rfl, rfl, rfl, rfl, by cases p <;> rfl, nofun, fun s q hq => ?_⟩
    split
    · exact setPhase_port_other _ (port_of_eq rfl rfl) hq
    · exact setPhase_port_ne s _ hq
  | _ => cases h

/-- A queued command's frame that passes its tests is closed and taken. -/
theorem ClosesAs.accepted {c : Instr} {f : QueuedFrame} {row : CommandRow} {forced : Bool} {acc : State → State}
    (hc : ClosesAs c f row forced acc) {s : State} (h : s.accepts f) :
    Machine.exec c s = .next (acc (s.endFrame f.port)) := by
  obtain ⟨hopen, hlen, hperm, hfree⟩ := h
  have hpermits := hc.permitted
  rw [hperm, Bool.and_eq_true, Bool.not_eq_true'] at hpermits
  rw [hc.exec, closeFrame_accepted]
  · rw [hc.code]
    exact hopen.openFrame_code
  · refine (frameTest_none _ _ _ _ _).mpr ⟨hlen.trans hc.length.symm, hpermits.1, hpermits.2, fun _ => ?_⟩
    exact (free_iff _).mpr hfree

theorem queuedFrameRefusedInOrder : QueuedFrameRefusedInOrder := by
  intro c f s hf h
  obtain ⟨row, forced, acc, hc⟩ := queuedFrame_closesAs hf
  have hopen : (s.openFrame f.port).map (·.code) = some row.code := by
    rw [hc.code]
    exact h.openFrame_code
  have hrefused : ∀ r : RefusalCode,
      frameTest row f.port (f.bytes.length + 1) forced (s.port f.port).phase = some r →
      Machine.exec c s = .next (s.refusedWith f.port r f.code (f.bytes.length + 1)) := by
    intro r hr
    rw [hc.exec, closeFrame_refused hopen hr, endFrame_recordRefusal, hc.code]
    rfl
  have hpermits := hc.permitted
  refine ⟨fun hlen => hrefused _ ?_, fun hlen hperm => hrefused _ ?_, fun hlen hperm hbusy => hrefused _ ?_⟩
  · exact frameTest_length (by rwa [hc.length])
  · rw [hperm, Bool.and_eq_false_iff, Bool.not_eq_false'] at hpermits
    exact frameTest_permission (by rwa [hc.length]) hpermits
  · rw [hperm, Bool.and_eq_true, Bool.not_eq_true'] at hpermits
    refine frameTest_busy (by rwa [hc.length]) hpermits.1 hpermits.2 hc.queued ?_
    rw [← Bool.not_eq_true, free_iff]
    intro hnone
    rw [hnone] at hbusy
    cases hbusy

/-- Settles O10: unlisted codes, queued commands and PORT RESET. -/
theorem refusedFramesAreOnlyRecorded : Obligations.RefusedFramesAreOnlyRecorded :=
  ⟨unlistedCodeIsRecordedAsUnknown, queuedFrameRefusedInOrder, portResetOfAnotherLengthIsRefused⟩

/-! ### The other port -/

/-- A close leaves the other port when its refusal and its acceptance do. -/
theorem closeFrame_other {row : CommandRow} {p q : PortId} {count : Nat} {forced : Bool} {ref acc : State → State}
    {s : State} (hq : q ≠ p) (href : ∀ u : State, (ref u).port q = u.port q) (hacc : ∀ u : State, (acc u).port q = u.port q) :
    (closeFrame row p count forced ref acc s).port q = s.port q := by
  rcases closeFrame_cases row p count forced ref acc s with ⟨-, he⟩ | ⟨r, -, -, he⟩ | ⟨-, -, he⟩ <;> rw [he]
  · rw [href, endFrame_recordRefusal, State.refusedWith, State.setPort_port_ne _ _ hq]
  · rw [hacc, endFrame_port_ne _ hq]

theorem open_port_ne (s : State) {p q : PortId} (code : Byte) (capture : Capture) (reply : List Byte) (h : q ≠ p) :
    (s.open p code capture reply).port q = s.port q :=
  State.setPort_port_ne _ _ h

theorem readFrame_other (s : State) {p q : PortId} (code : Byte) (h : q ≠ p) :
    (s.readFrame p code).port q = s.port q := by
  have hcancel : (s.readCancel p).port q = s.port q := by
    unfold State.readCancel
    split
    · exact (open_port_ne _ _ _ _ h).trans (port_of_eq rfl rfl q)
    · exact open_port_ne _ _ _ _ h
  unfold State.readFrame
  split_ifs
  · exact open_port_ne _ _ _ _ h
  · exact open_port_ne _ _ _ _ h
  · exact open_port_ne _ _ _ _ h
  · exact hcancel
  · exact open_port_ne _ _ _ _ h
  · exact open_port_ne _ _ _ _ h

/-- A MOVE ALL ends on the Unit Port. -/
theorem endWalk_other (s : State) (r : Result) {q : PortId} (h : q ≠ .unit) : (s.endWalk r).port q = s.port q :=
  (setPhase_port_ne _ _ h).trans (port_of_eq rfl rfl q)

theorem cancelWalk_other (s : State) {q : PortId} (h : q ≠ .unit) : s.cancelWalk.port q = s.port q := by
  unfold State.cancelWalk
  split
  · split
    · exact port_of_eq rfl rfl q
    · exact endWalk_other _ _ h
  · rfl

theorem releaseWalk_other (s : State) {q : PortId} (h : q ≠ .unit) : s.releaseWalk.port q = s.port q := by
  unfold State.releaseWalk
  split
  · split
    · exact port_of_eq rfl rfl q
    · exact endWalk_other _ _ h
    · rfl
    · rfl
  · rfl

/-- The frame of a CANCEL that holds a walk is the Unit Port's. -/
theorem PortsRight.unit_of_cancel {s : State} (hs : PortsRight s) {p : PortId}
    (h : s.capture p = some (.cancel true)) : p = .unit := by
  obtain ⟨-, -, -, -, -, hcancel, -⟩ := hs
  obtain ⟨fr, hfr, hcapture⟩ := Option.map_eq_some_iff.mp h
  obtain ⟨-, hframe⟩ := State.openFrame_some.mp hfr
  cases p with
  | unit => rfl
  | dock => exact absurd hcapture (hcancel fr hframe)

/-- Settles O11, frame by frame: a CANCEL that holds a walk is the Unit Port's. -/
theorem framesLeaveTheOtherPort : Obligations.FramesLeaveTheOtherPort := by
  intro c p q s t hframe hq hs hexec
  have hid : ∀ u : State, (id u).port q = u.port q := fun _ => rfl
  cases c with
  | frameRead p' code =>
    cases hframe
    cases hexec
    split
    · exact readFrame_other s code hq
    · rfl
  | unknownCommandFrame p' count =>
    cases hframe
    cases hexec
    split
    · split
      · rfl
      · rw [endFrame_recordRefusal, State.refusedWith, State.setPort_port_ne _ _ hq]
    · rfl
  | readPortStatus p' count =>
    cases hframe
    cases hexec
    exact closeFrame_other hq hid fun u => State.setPort_port_ne _ _ hq
  | pollFlags p' count =>
    cases hframe
    cases hexec
    split
    · exact closeFrame_other hq hid fun u => State.setPort_port_ne _ _ hq
    · rfl
  | setFlagMask p' bytes =>
    cases hframe
    cases hexec
    exact closeFrame_other hq (fun u => State.setPort_port_ne _ _ hq) fun u => State.setPort_port_ne _ _ hq
  | readResult p' count =>
    cases hframe
    cases hexec
    split
    · rename_i found n hcapture
      refine closeFrame_other hq hid fun u => ?_
      cases found with
      | waiting => exact setPhase_port_ne _ _ hq
      | notReady => rfl
      | empty => exact State.setPort_port_ne _ _ hq
    · rfl
  | cancel p' count =>
    cases hframe
    cases hexec
    split
    · rename_i hcapture
      cases hs.unit_of_cancel hcapture
      exact closeFrame_other hq (fun u => releaseWalk_other u hq) fun u => cancelWalk_other u hq
    · exact closeFrame_other hq hid hid
    · rfl
  | portReset p' count =>
    cases hframe
    cases hexec
    exact closeFrame_other hq hid fun u => resetPort_port_ne u hq
  | _ =>
    unfold framePort at hframe
    obtain ⟨f, hf, rfl⟩ := Option.map_eq_some_iff.mp hframe
    obtain ⟨row, forced, acc, hc⟩ := queuedFrame_closesAs hf
    rw [hc.exec] at hexec
    cases hexec
    exact closeFrame_other hq hid fun u => hc.other u q hq

end Sys2Proof.Machine
end

section
/-!
PROOFS. The queued commands at their close: their fields (R179), the commands that wait for their steps, and those answered
at acceptance (R33, R51, R59, R68, R130, R148, R172).
-/
namespace Sys2Proof.Machine

/-! ### Numbers and fields -/

/-- A signed 16-bit number reads back from its two's complement. -/
theorem toInt_ofNat_ofInt {t : Int} (hlo : -32768 ≤ t) (hhi : t ≤ 32767) :
    (BitVec.ofNat 16 (BitVec.ofInt 16 t).toNat).toInt = t := by
  rw [BitVec.ofNat_toNat, BitVec.setWidth_eq, BitVec.toInt_ofInt]
  exact Int.bmod_eq_of_le (by omega) (by omega)

/-- A signed number at an offset of some bytes that hold its two's complement there. -/
theorem intAt_of_natAt {o : Nat} {bs : List Byte} {t : Int} (h : natAt o 2 bs = beNat (intBytes t)) (hlo : -32768 ≤ t)
    (hhi : t ≤ 32767) : intAt o bs = t := by
  rw [intAt, h, intBytes, beNat_beBytes, Nat.mod_eq_of_lt (show _ < 256 ^ 2 from (BitVec.ofInt 16 t).isLt)]
  exact toInt_ofNat_ofInt hlo hhi

theorem verdictField_rank (b : Byte) : (verdictField b).rank = b.toNat % 4 := by
  have hcases : b.toNat % 4 = 0 ∨ b.toNat % 4 = 1 ∨ b.toNat % 4 = 2 ∨ b.toNat % 4 = 3 := by omega
  unfold verdictField
  rcases hcases with h | h | h | h <;> rw [h] <;> rfl

/-- The marks byte has a bit for each mark, and no other. -/
theorem marks_bits (v : Settings) : v.marks.getLsbD 0 = v.active ∧ v.marks.getLsbD 1 = v.simulant
    ∧ v.marks.getLsbD 2 = v.air ∧ v.marks.toNat < 8 := by
  unfold Settings.marks
  cases v.active <;> cases v.simulant <;> cases v.air <;> decide

theorem compFlag_getLsbD (f : CompFlag) (c : CompNo) (i : Nat) :
    (compFlag f c).getLsbD i = true ↔ i = 8 * c.val + f.bit := by
  have hbit : f.bit < 8 := by cases f <;> decide
  have hc := c.isLt
  unfold compFlag
  rw [BitVec.getLsbD_twoPow]
  simp
  omega

theorem verdictFlag_getLsbD (w : Verdict) (c : CompNo) (i : Nat) : (verdictFlag w c).getLsbD i = true ↔
    (w = .watch ∧ i = 8 * c.val + 5) ∨ (w = .unproven ∧ i = 8 * c.val + 6) ∨ (w = .broken ∧ i = 8 * c.val + 7) := by
  cases w <;> simp [verdictFlag, compFlag_getLsbD, CompFlag.bit]

/-- A number of so many bytes reads back. -/
theorem beNat_beBytes_of_lt {k n : Nat} (h : n < 256 ^ k) : beNat (beBytes k n) = n := by
  rw [beNat_beBytes, Nat.mod_eq_of_lt h]

/-- A number of one byte reads back. -/
theorem natByte_toNat {n : Nat} (h : n < 256) : (natByte n).toNat = n := by
  rw [natByte, BitVec.toNat_ofNat, Nat.mod_eq_of_lt h]

theorem settingsBytes_read (v : Settings) (h : SettingsRight v) :
    v.bytes.length = 10 ∧ (byteAt 0 v.bytes).getLsbD 0 = v.active ∧ (byteAt 0 v.bytes).getLsbD 1 = v.simulant
      ∧ (byteAt 0 v.bytes).getLsbD 2 = v.air ∧ (byteAt 0 v.bytes).toNat < 8 ∧ intAt 1 v.bytes = v.airOffset
      ∧ (byteAt 3 v.bytes).toNat = v.holdLimit ∧ natAt 4 2 v.bytes = v.doorLimit ∧ intAt 6 v.bytes = v.ceiling
      ∧ (byteAt 8 v.bytes).toNat = v.shieldBase ∧ (byteAt 9 v.bytes).toNat = v.recoveryLength := by
  obtain ⟨hofflo, hoffhi, hhold, hdoorlo, hdoor, ⟨hceillo, hceilhi⟩, hshield, hrecovery⟩ := h
  have hlo : (-400 : Int) ≤ v.ceiling := hceillo
  have hhi : v.ceiling ≤ 500 := hceilhi
  obtain ⟨h0, h1, h2, h8⟩ := marks_bits v
  refine ⟨rfl, h0, h1, h2, h8, intAt_of_natAt rfl (by omega) (by omega), natByte_toNat (by omega), ?_,
    intAt_of_natAt rfl (by omega) (by omega), natByte_toNat (by omega), natByte_toNat (by omega)⟩
  exact beNat_beBytes_of_lt (k := 2) (by omega)

theorem beNat_pair (a b : Byte) : beNat [a, b] = 256 * a.toNat + b.toNat := by
  refine (beNat_append [a] b).trans ?_
  simp [beNat]

/-- Settles O12, field by field. -/
theorem frameFieldsReadByTheirBits : Obligations.FrameFieldsReadByTheirBits :=
  ⟨fun _ => rfl, fun _ _ => compField_some, verdictField_rank, fun _ => ⟨rfl, rfl, rfl⟩, fun _ _ => ⟨rfl, rfl, rfl⟩,
    fun a b => beNat_pair a b, beNat_append, fun _ _ h => ⟨beBytes_length _ _, beNat_beBytes_of_lt h⟩,
    fun _ hlo hhi => intAt_of_natAt rfl hlo hhi, settingsBytes_read, verdictFlag_getLsbD⟩

/-! ### Commands that wait -/

theorem stepCommandsWaitWhenAccepted : StepCommandsWaitWhenAccepted := by
  intro c f cmd s hf hw h
  obtain ⟨row, forced, acc, hc⟩ := queuedFrame_closesAs hf
  rw [hc.accepted h, hc.waits cmd hw h.2.1, acceptWaiting_endFrame]

theorem moveAllAcceptedAtSlotZero : MoveAllAcceptedAtSlotZero :=
  fun _ _ h => congrArg Host.Outcome.next (closeFrame_accepts (row := rowMoveAll) rfl h)

/-- Settles O13, by the close that each queued command's row gives. -/
theorem acceptedCommandsWaitForTheirSteps : Obligations.AcceptedCommandsWaitForTheirSteps :=
  ⟨stepCommandsWaitWhenAccepted, moveAllAcceptedAtSlotZero⟩

theorem compField_unnamed {b : Byte} (h : b.toNat ∉ [1, 2, 3, 4]) : compField b = none := by
  cases hc : compField b with
  | none => rfl
  | some c =>
    have hb := compField_some.mp hc
    have hlt := c.isLt
    simp only [List.mem_cons, List.not_mem_nil, or_false] at h
    omega

theorem exec_setCompartment_accepted {bytes : List Byte} {s : State}
    (h : s.accepts ⟨.unit, 0x38, 12, true, false, bytes⟩) :
    exec (.setCompartment .unit bytes) s = .next
      (match compField (byteAt 0 bytes) with
       | none => (s.endFrame .unit).place .unit (answer rowSetCompartment .badCompartment [])
       | some c =>
         if (settingsField bytes).active then
           ((s.endFrame .unit).storeActive c (settingsField bytes).clamped).place .unit
             (settingsAnswer c (settingsField bytes))
         else acceptWaiting .unit (.setCompartmentOff c (settingsField bytes)) (s.endFrame .unit)) :=
  congrArg Host.Outcome.next (closeFrame_accepts (row := rowSetCompartment) rfl h)

theorem exec_readCompartment_accepted {p : PortId} {bytes : List Byte} {s : State}
    (h : s.accepts ⟨p, 0x39, 2, true, true, bytes⟩) :
    exec (.readCompartment p bytes) s = .next
      (match compField (byteAt 0 bytes) with
       | some c => (s.endFrame p).place p (answer rowReadCompartment .ok ((s.endFrame p).compReport c))
       | none => (s.endFrame p).place p (answer rowReadCompartment .badCompartment [])) :=
  congrArg Host.Outcome.next (closeFrame_accepts (row := rowReadCompartment) (by cases p <;> rfl) h)

/-- Settles O14, command by command. -/
theorem unknownCompartmentRefusedAtAcceptance : Obligations.UnknownCompartmentRefusedAtAcceptance := by
  intro p bytes s
  refine ⟨fun hb h => ?_, fun hb h => ?_, fun hb h => ?_⟩
  · refine stepCommandsWaitWhenAccepted (.walk p bytes) _ _ s rfl ?_ h
    have hnone : compField (byteAt 0 bytes) = none := compField_unnamed (by simp; omega)
    rw [waitsAs, if_neg (by omega), hnone]
    rfl
  · rw [exec_setCompartment_accepted h, compField_unnamed hb]
    exact congrArg Host.Outcome.next (place_endFrame _ _ _)
  · rw [exec_readCompartment_accepted h, compField_unnamed hb]
    exact congrArg Host.Outcome.next (place_endFrame _ _ _)

/-! ### Settings stored at acceptance -/

/-- The code of an answer that echoes a stored value. -/
theorem adjustedCode_bne {α : Type} [BEq α] [LawfulBEq α] [DecidableEq α] (stored carried : α) :
    adjustedCode (stored != carried) = if stored = carried then .ok else .adjusted := by
  unfold adjustedCode
  by_cases h : stored = carried <;> simp [h]

theorem offerTimeoutStoredClamped : OfferTimeoutStoredClamped := by
  rintro bytes v s h rfl
  have hlen : bytes.length + 1 = 3 := h.2.1
  have hv : natAt 0 2 bytes = beNat bytes := by
    rw [natAt, slice, List.drop_zero, List.take_of_length_le (by omega)]
  have hclamp : clampTimeout (natAt 0 2 bytes)
      = if beNat bytes < 10 then 10 else if 3600 < beNat bytes then 3600 else beNat bytes := by
    rw [hv]
    exact clampNat_eq (by decide) _
  have hexec : exec (.setOfferTimeout .unit bytes) s = .next
      (((s.endFrame .unit).setOfferTimeout (clampTimeout (natAt 0 2 bytes))).place .unit
        (answer rowSetOfferTimeout (adjustedCode (clampTimeout (natAt 0 2 bytes) != natAt 0 2 bytes))
          (beBytes 2 (clampTimeout (natAt 0 2 bytes))))) :=
    congrArg Host.Outcome.next (closeFrame_accepts (row := rowSetOfferTimeout) rfl h)
  dsimp only
  rw [hexec, adjustedCode_bne, hclamp, hv]
  rfl

theorem scanPeriodStoredClamped : ScanPeriodStoredClamped := by
  intro b s h
  have hclamp : clampPeriod b = if b.toNat = 0 then 1 else if 50 < b.toNat then 50 else b.toNat := by
    refine (clampNat_eq (lo := 1) (hi := 50) (by decide) b.toNat).trans ?_
    simp only [Nat.lt_one_iff]
  have hexec : exec (.setScanPeriod .unit [b]) s = .next
      (((s.endFrame .unit).setScanPeriod (clampPeriod b)).place .unit
        (answer rowSetScanPeriod (adjustedCode (clampPeriod b != b.toNat)) [natByte (clampPeriod b)])) :=
    congrArg Host.Outcome.next (closeFrame_accepts (row := rowSetScanPeriod) rfl h)
  dsimp only
  rw [hexec, adjustedCode_bne, hclamp]
  rfl

/-- Settles O15. -/
theorem settingsStoredClamped : Obligations.SettingsStoredClamped :=
  ⟨offerTimeoutStoredClamped, scanPeriodStoredClamped⟩

/-! ### Reading commands -/

theorem secondsTo_eq (now t : RouteTime) : secondsTo now t
    = if (now - t).toNat < 2147483648 then 0 else (t - now).toNat := by
  simp [secondsTo, reached]

theorem compReport_endFrame (s : State) (p : PortId) (c : CompNo) : (s.endFrame p).compReport c = s.compReport c := by
  cases p <;> rfl

theorem classReport_endFrame (s : State) (p : PortId) (k : ClassNo) :
    (s.endFrame p).classReport k = s.classReport k := by
  cases p <;> rfl

theorem scanReport_endFrame (s : State) (p : PortId) : (s.endFrame p).scanReport = s.scanReport := by
  cases p <;> rfl

theorem clockReport_endFrame (s : State) (p : PortId) : (s.endFrame p).clockReport = s.clockReport := by
  cases p <;> rfl

/-- The seconds to a time that may be absent, as a reading command gives them. -/
theorem elim_secondsTo (now : RouteTime) (t : Option RouteTime) : t.elim 0 (secondsTo now)
    = match t with
      | some d => if (now - d).toNat < 2147483648 then 0 else (d - now).toNat
      | none => 0 := by
  cases t with
  | none => rfl
  | some d => exact secondsTo_eq now d

theorem natByte_tag (g : ScanTag) : natByte g.toNat = g := BitVec.eq_of_toNat_eq (by simp [natByte])

/-- READ CLASS's bytes, in the order of section 12.7. -/
theorem classReport_eq (s : State) (k : ClassNo) : s.classReport k
    = match s.classes[k] with
      | some v => [(1 : Byte)] ++ intBytes v.upper ++ intBytes v.hard
         ++ (match v.low with
           | some l => intBytes l.lower ++ intBytes l.floor
           | none => intBytes (-32768) ++ intBytes (-32768))
         ++ beBytes 4 v.warmBudget ++ beBytes 4 v.coldBudget ++ [BitVec.ofNat 8 v.watchPercent]
         ++ beBytes 4 v.tolerance ++ [BitVec.ofNat 8 s.useCount[k]]
      | none => [(0 : Byte)] ++ intBytes (-32768) ++ intBytes (-32768) ++ intBytes (-32768) ++ intBytes (-32768)
         ++ List.replicate 13 0 ++ [BitVec.ofNat 8 s.useCount[k]] := by
  unfold State.classReport
  cases s.classes[k] with
  | none => rfl
  | some v => cases hlow : v.low <;> simp [ClassLimits.bytes, limitBytes, hlow, natByte, tempBytes, Config.absentTemp]

theorem snapshotBytes_eq (x : Option Snapshot) : snapshotBytes x
    = match x with
      | some n => [n.reading.source.byte] ++ intBytes (n.reading.temp.getD (-32768)) ++ beBytes 2 n.span
         ++ [(if n.doorOpen = true then (1 : Byte) else 0) + (if n.shielded = true then 2 else 0)]
         ++ beBytes 4 n.takenAt.toNat
      | none => [3] ++ intBytes (-32768) ++ [0, 0, 0, 0, 0, 0, 0] := by
  cases x with
  | none => decide
  | some n => rfl

/-- Settles O16: each report is the bytes of section 12.7 read from the state as it stands. -/
theorem readingCommandsAnswerAtOnce : Obligations.ReadingCommandsAnswerAtOnce := by
  intro p s
  refine ⟨fun bytes h => ?_, fun bytes c hc h => ?_, fun h => ?_, fun h => ?_⟩
  · have hexec : exec (.readClass p bytes) s = .next ((s.endFrame p).place p
        (answer rowReadClass .ok ((s.endFrame p).classReport (classField (byteAt 0 bytes))))) :=
      congrArg Host.Outcome.next (closeFrame_accepts (row := rowReadClass) (by cases p <;> rfl) h)
    rw [hexec, classReport_endFrame, classReport_eq, place_endFrame]
    rfl
  · dsimp only
    rw [exec_readCompartment_accepted h, compField_some.mpr hc]
    dsimp only
    rw [compReport_endFrame, place_endFrame, State.compReport]
    rw [elim_secondsTo, snapshotBytes_eq]
    rfl
  · have hexec : exec (.readScan .unit []) s = .next ((s.endFrame .unit).place .unit
        (answer rowReadScan .ok (s.endFrame .unit).scanReport)) :=
      congrArg Host.Outcome.next (closeFrame_accepts (row := rowReadScan) rfl h)
    rw [hexec, scanReport_endFrame, place_endFrame, State.scanReport, elim_secondsTo, natByte_tag]
    rfl
  · have hexec : exec (.readClock p []) s = .next ((s.endFrame p).place p
        (answer rowReadClock .ok (s.endFrame p).clockReport)) :=
      congrArg Host.Outcome.next (closeFrame_accepts (row := rowReadClock) (by cases p <;> rfl) h)
    rw [hexec, clockReport_endFrame, place_endFrame, State.clockReport]
    cases s.lastStart <;> rfl

/-! ### SET COMPARTMENT with mode ACTIVE -/

theorem Settings.clamped_eq (v : Settings) : v.clamped
    = { v with
        airOffset := if v.airOffset < -50 then -50 else if 50 < v.airOffset then 50 else v.airOffset
        holdLimit := if 15 < v.holdLimit then 15 else v.holdLimit
        doorLimit := if v.doorLimit < 10 then 10 else if 3600 < v.doorLimit then 3600 else v.doorLimit
        ceiling := if v.ceiling < -400 then -400 else if 500 < v.ceiling then 500 else v.ceiling } := by
  have hoffset := clampInt_eq (lo := -50) (hi := 50) (by decide) v.airOffset
  have hhold := clampNat_eq (lo := 0) (hi := 15) (by decide) v.holdLimit
  have hdoor := clampNat_eq (lo := 10) (hi := 3600) (by decide) v.doorLimit
  rw [if_neg (Nat.not_lt_zero _)] at hhold
  rw [← hoffset, ← hhold, ← hdoor, ← clampTemp_eq]
  rfl

/-- A compartment that stays ACTIVE, by its counters within the new bounds. -/
theorem restore_eq (x : Compartment) (v : Settings) : x.restore v
    = if x.defrost = .recovery ∧ (x.recoveryLeft = 0 ∨ v.recoveryLength = 0) then
        { x with settings := v, defrost := .normal, shieldLeft := 0, recoveryLeft := 0 }
      else { x with settings := v, shieldLeft := min x.shieldLeft v.shieldBase,
                    recoveryLeft := min x.recoveryLeft v.recoveryLength } := by
  unfold Compartment.restore
  simp only [Nat.min_eq_zero_iff]

/-- Settles O17, by whether the compartment was ACTIVE. -/
theorem setCompartmentActiveStoresAtOnce : Obligations.SetCompartmentActiveStoresAtOnce := by
  intro bytes c s h hc hactive raw clampTo v x
  have hv : raw.clamped = v := raw.clamped_eq
  have hraw : raw.active = true := hactive
  refine ⟨x.store v s.clock s.doorLines[c] s.scanner.period, serveProbes c x.settings v s.probes, ?_, fun hoff => ?_,
    fun hon => ?_, fun n => ?_⟩
  · rw [exec_setCompartment_accepted h, compField_some.mpr hc]
    dsimp only
    rw [if_pos hraw, settingsAnswer, Settings.adjusted, adjustedCode_bne, hv]
    rfl
  · rw [Compartment.store, if_neg (by rw [Compartment.active, hoff]; nofun)]
    rfl
  · have hon : x.active = true := hon
    rw [Compartment.store, if_pos hon, restore_eq]
  · rw [serveProbes_get, Probe.serve]
    dsimp only
    by_cases hcomp : n.val / 2 ≠ c.val
    · rw [if_pos hcomp, if_pos (.inl hcomp)]
    · rw [if_neg hcomp]
      by_cases hsame : servedBy x.settings n = servedBy v n
      · rw [if_pos hsame, if_pos (.inr hsame)]
      · rw [if_neg hsame, if_neg (not_or.mpr ⟨hcomp, hsame⟩)]
        rfl

/-! ### The route clock -/

theorem routeSecondRaisesTheClock : RouteSecondRaisesTheClock := fun _ => rfl

theorem setClockKeepsRemainingTimes : SetClockKeepsRemainingTimes := by
  intro now v t u
  have hreached : v - (t + (v - now)) = now - t := by bv_omega
  have hleft : t + (v - now) - v = t - now := by bv_omega
  refine ⟨?_, ?_, notLater_shift t u (v - now)⟩
  · rw [reached, hreached, reached]
  · rw [secondsTo_eq, hreached, hleft, secondsTo_eq]

theorem exec_setClock_accepted {bytes : List Byte} {s : State} (h : s.accepts ⟨.unit, 0x49, 5, true, false, bytes⟩) :
    exec (.setClock .unit bytes) s = .next
      (if (s.endFrame .unit).engine.isNone then
        (s.endFrame .unit).takeClockEvent .unit (BitVec.ofNat 32 (natAt 0 4 bytes))
       else acceptWaiting .unit (.setClock (BitVec.ofNat 32 (natAt 0 4 bytes))) (s.endFrame .unit)) :=
  congrArg Host.Outcome.next (closeFrame_accepts (row := rowSetClock) rfl h)

theorem setClockShiftsEveryHeldTime : SetClockShiftsEveryHeldTime := by
  rintro bytes v s hlen rfl d shifted
  have hv : natAt 0 4 bytes = beNat bytes := by
    rw [natAt, slice, List.drop_zero, List.take_of_length_le (by omega)]
  refine ⟨fun h he => ?_, shiftNamed d s.offers s.slots, fun h he => ?_, fun hpower hphase he => ?_,
    fun i r l t hr hl ho => ?_, fun i hno => ?_, fun i hno => ?_⟩
  · rw [exec_setClock_accepted h, hv, if_neg, acceptWaiting_endFrame]
    rw [State.endFrame_engine, Option.isNone_iff_eq_none]
    exact he
  · rw [exec_setClock_accepted h, hv, if_pos (by rw [State.endFrame_engine, he]; rfl)]
    rfl
  · show Host.Outcome.next
      (match s.unitPort.phase with
       | .waiting (.setClock v) => if s.powered && s.engine.isNone then s.takeClockEvent .unit v else s
       | _ => s) = _
    rw [hphase]
    dsimp only
    rw [if_pos (by simp [State.powered, hpower, he])]
    rfl
  · rw [shiftNamed_get, if_pos, hr, Option.map_some, Record.shift_eq, hl]
    · rfl
    · obtain ⟨o, ho, hoi⟩ := ho
      exact List.any_eq_true.mpr ⟨o, ho, beq_iff_eq.mpr hoi⟩
  · rw [shiftNamed_get, if_neg]
    intro hany
    obtain ⟨o, ho, hoi⟩ := List.any_eq_true.mp hany
    exact hno ⟨o, ho, beq_iff_eq.mp hoi⟩
  · rw [shiftNamed_get]
    split
    · cases hr : s.slots[i] with
      | none => rfl
      | some r =>
        rw [Option.map_some, Record.shift]
        split
        · rfl
        · rename_i l t hl
          exact absurd hl (hno r l t hr)
        · rfl
    · rfl

/-- Settles O19. -/
theorem clockMovesHeldTimesTogether : Obligations.ClockMovesHeldTimesTogether :=
  ⟨routeSecondRaisesTheClock, setClockShiftsEveryHeldTime, setClockKeepsRemainingTimes⟩

end Sys2Proof.Machine
end

section
/-!
PROOFS. The arbiter: whom it grants, what a grant does to the order, and how long a waiting requester waits (R10 to R13).
-/
namespace Sys2Proof.Machine

/-! ### The grant of each row -/

/-- A port's step row at its grant is the grant of that port's waiting command. -/
theorem exec_begins_of_stepRow {p : PortId} {cmd : PortCommand} {row : StepPhase → Instr} (hr : stepRow p cmd = some row)
    (s : State) : ∃ kind : PortCommand → Bool, kind cmd = true ∧ exec (row .begins) s = .next (beginPortStep p kind s) := by
  cases p <;> cases cmd <;> first
    | (cases hr; done)
    | (cases hr; refine ⟨_, ?_, rfl⟩; rfl)

theorem beginPortStep_granted {s : State} {p : PortId} {cmd : PortCommand} {kind : PortCommand → Bool}
    (hphase : (s.port p).phase = .waiting cmd) (hk : kind cmd = true) (hg : s.mayGrant (requesterOf p) = true) :
    beginPortStep p kind s = (s.grant (requesterOf p) (.port p cmd)).setPhase p (.working cmd) := by
  unfold beginPortStep
  rw [hphase]
  dsimp only
  rw [if_pos (by rw [hk, hg]; rfl)]

theorem requesterStep_granted {s : State} {r : Requester} (w : StepWork) (hg : s.mayGrant r = true) :
    requesterStep r w .begins s = s.grant r w := by
  rw [requesterStep, if_pos hg]

theorem grantGoesToTheHighestWaiting : GrantGoesToTheHighestWaiting := by
  intro r s hpower he hclock hfind begun
  have hg : s.mayGrant r = true := mayGrant_iff.mpr ⟨hpower, he, hclock, hfind⟩
  refine ⟨fun p cmd row hr hphase hrow => ?_, fun m hr hphase hm => ?_, fun hr => ?_, fun hr => ?_, fun hr => ?_⟩
  · subst hr
    obtain ⟨kind, hk, hexec⟩ := exec_begins_of_stepRow hrow s
    rw [hexec, beginPortStep_granted hphase hk hg]
    rfl
  · subst hr
    show Host.Outcome.next (beginMoveAllSlot s) = _
    rw [beginMoveAllSlot, hphase, hm]
    dsimp only
    rw [if_pos hg]
    rfl
  · subst hr
    exact congrArg Host.Outcome.next (requesterStep_granted .accrual hg)
  · subst hr
    exact congrArg Host.Outcome.next (requesterStep_granted .lapse hg)
  · subst hr
    exact congrArg Host.Outcome.next (requesterStep_granted .gap hg)

/-- What a grant row does for its requester: nothing, or the grant. -/
structure GrantedTo (q : Requester) (s t : State) : Prop where
  may : s.mayGrant q = true
  order : t.order = granted q s.order
  engine : t.engine.isSome = true

theorem beginPortStep_cases (p : PortId) (kind : PortCommand → Bool) (s : State) :
    beginPortStep p kind s = s ∨ GrantedTo (requesterOf p) s (beginPortStep p kind s) := by
  unfold beginPortStep
  split
  · split
    · rename_i h
      exact .inr ⟨(Bool.and_eq_true_iff.mp h).2, State.setPort_order _ _ _, by simp [State.setPhase, State.grant]⟩
    · exact .inl rfl
  · exact .inl rfl

theorem beginMoveAllSlot_cases (s : State) :
    beginMoveAllSlot s = s ∨ GrantedTo .unitPort s (beginMoveAllSlot s) := by
  unfold beginMoveAllSlot
  split
  · split
    · rename_i h
      exact .inr ⟨h, rfl, rfl⟩
    · exact .inl rfl
  · exact .inl rfl

theorem requesterStep_begins_cases (r : Requester) (w : StepWork) (s : State) :
    requesterStep r w .begins s = s ∨ GrantedTo r s (requesterStep r w .begins s) := by
  rw [requesterStep]
  split
  · rename_i h
    exact .inr ⟨h, rfl, rfl⟩
  · exact .inl rfl

/-- The rows at their grants. -/
theorem exec_grant_cases {c : Instr} {q : Requester} {s t : State} (hc : grantTo c = some q) (h : exec c s = .next t) :
    t = s ∨ GrantedTo q s t := by
  cases c with
  | admitStep p ph | findStep p ph | walkStep p ph | offerStep p ph | withdrawStep p ph | readStatementStep p ph
    | retireStep p ph =>
    cases ph <;> cases hc
    cases h
    exact beginPortStep_cases p _ s
  | moveStep ph | trialMoveStep ph | discardStep ph | classTestStep ph | compartmentTestStep ph | tableTestStep ph =>
    cases ph <;> cases hc
    cases h
    exact beginPortStep_cases .unit _ s
  | closeStep ph =>
    cases ph <;> cases hc
    cases h
    exact beginPortStep_cases .dock _ s
  | moveAllSlot ph =>
    cases ph <;> cases hc
    cases h
    exact beginMoveAllSlot_cases s
  | accrualVisit ph | lapseStep ph | gapVisit ph =>
    cases ph <;> cases hc
    cases h
    exact requesterStep_begins_cases _ _ s
  | _ => cases hc

theorem nothingGrantedOutOfTurn : NothingGrantedOutOfTurn := by
  intro c r s hc hout
  obtain ⟨t, ht⟩ := exec_next c s
  rcases exec_grant_cases hc ht with rfl | hg
  · exact ht
  · obtain ⟨hpower, he, hclock, hfind⟩ := mayGrant_iff.mp hg.may
    rcases hout with h | h | ⟨v, h⟩ | h
    · rw [hpower] at h
      cases h
    · exact absurd he h
    · exact absurd h (hclock v)
    · exact absurd hfind h

/-- Settles O20. -/
theorem arbiterGrantsTheHighestWaiting : Obligations.ArbiterGrantsTheHighestWaiting :=
  ⟨grantGoesToTheHighestWaiting, nothingGrantedOutOfTurn⟩

/-! ### The order (R12, R13) -/

/-- Of two waiting places the first is granted and falls to the end: the other moves one place up. -/
theorem idxOf_granted {p : Requester → Bool} {q r : Requester} (hp : p r = true) (hqr : q ≠ r) {l : List Requester}
    (hnd : l.Nodup) (hr : r ∈ l) (hfind : l.find? p = some q) : (granted q l).idxOf r + 1 = l.idxOf r := by
  induction l with
  | nil => cases hr
  | cons x xs ih =>
    obtain ⟨hx, hxs⟩ := List.nodup_cons.mp hnd
    unfold granted at ih ⊢
    cases hpx : p x with
    | true =>
      rw [List.find?_cons_of_pos hpx] at hfind
      cases hfind
      have hmem : r ∈ xs := (List.mem_cons.mp hr).resolve_left (Ne.symm hqr)
      rw [List.erase_cons_head, List.idxOf_append_of_mem hmem, List.idxOf_cons_ne _ hqr]
    | false =>
      have hxr : x ≠ r := by
        rintro rfl
        rw [hp] at hpx
        cases hpx
      have hmem : r ∈ xs := (List.mem_cons.mp hr).resolve_left (Ne.symm hxr)
      rw [List.find?_cons_of_neg (by rw [hpx]; nofun)] at hfind
      have hxq : x ≠ q := by
        rintro rfl
        exact hx (List.mem_of_find?_eq_some hfind)
      rw [List.erase_cons_tail (by simpa using hxq), List.cons_append, List.idxOf_cons_ne _ hxr,
        List.idxOf_cons_ne _ hxr, Nat.succ_eq_add_one, ih hxs hmem hfind]

/-- A requester waiting at the highest place is the one found. -/
theorem find_of_idxOf_zero {p : Requester → Bool} {q r : Requester} (hp : p r = true) {l : List Requester} (hr : r ∈ l)
    (h : l.idxOf r = 0) (hfind : l.find? p = some q) : q = r := by
  cases l with
  | nil => cases hr
  | cons x xs =>
    have hxr : x = r := by
      by_contra hne
      rw [List.idxOf_cons_ne _ hne] at h
      cases h
    subst hxr
    rw [List.find?_cons_of_pos hp] at hfind
    exact (Option.some.inj hfind).symm

theorem OrderRight.nodup {s : State} (h : OrderRight s) : s.order.Nodup := h.nodup_iff.mpr (by decide)

theorem OrderRight.mem {s : State} (h : OrderRight s) (r : Requester) : r ∈ s.order :=
  h.mem_iff.mpr (by cases r <;> decide)

theorem OrderRight.idxOf_le {s : State} (h : OrderRight s) (r : Requester) : s.order.idxOf r ≤ 4 := by
  have hlt := List.idxOf_lt_length_of_mem (h.mem r)
  have hlen : s.order.length = 5 := h.length_eq
  omega

theorem GrantedTo.orderRight {q : Requester} {s t : State} (h : GrantedTo q s t) (hs : OrderRight s) : OrderRight t := by
  unfold OrderRight
  rw [h.order]
  exact (granted_perm (hs.mem q)).trans hs

/-- The move of a waiting requester at another's grant. -/
theorem GrantedTo.moves_up {q r : Requester} {s t : State} (h : GrantedTo q s t) (hs : OrderRight s)
    (hr : s.stepWaiting r = true) (hqr : q ≠ r) : t.order.idxOf r + 1 = s.order.idxOf r := by
  obtain ⟨-, -, -, hfind⟩ := mayGrant_iff.mp h.may
  rw [h.order]
  exact idxOf_granted hr hqr hs.nodup (hs.mem r) hfind

theorem grantMovesTheWaitingUp : GrantMovesTheWaitingUp := by
  intro c q r s t hs hc he hexec ht hr
  have hg : GrantedTo q s t := by
    rcases exec_grant_cases hc hexec with rfl | hg
    · exact absurd he ht
    · exact hg
  obtain ⟨-, -, -, hfind⟩ := mayGrant_iff.mp hg.may
  exact ⟨hg.orderRight hs, hs.idxOf_le r, fun h0 => find_of_idxOf_zero hr (hs.mem r) h0 hfind, hg.moves_up hs hr⟩

theorem Scanned.order {s t : State} (h : Scanned s t) : t.order = s.order := by
  obtain ⟨_, _, _, _, _, _, _, _, _, rfl⟩ := h
  rfl

theorem Worked.order {st : StepInProgress} {s u : State} (h : Worked st s u) : u.order = s.order := by
  cases h with
  | admitted => rw [takeAboard_eq]; rfl
  | nothing | discarded | moved | offered | offerEnded | closed | statementRead | retired | classSet | switchedOff
    | identitySet | charged | gapCharged | exempted => rfl

/-- The order as it was, and no step begun. -/
structure Ungranted (s t : State) : Prop where
  order : t.order = s.order
  engine : s.engine = none → t.engine = none

theorem Outer.ungranted {s u t : State} (h : Outer u t) (horder : u.order = s.order)
    (he : s.engine = none → u.engine = none) : Ungranted s t :=
  ⟨h.order.trans horder, fun hs => h.engine.trans (he hs)⟩

theorem Scanned.ungranted {s u t : State} (h : Scanned u t) (horder : u.order = s.order)
    (he : u.engine = s.engine) : Ungranted s t :=
  ⟨h.order.trans horder, fun hs => h.engine.trans (he.trans hs)⟩

/-- But for the two power rows, only a grant row moves the order or begins a step. -/
theorem Changed.ungranted {c : Instr} {s t : State} (h : Changed c s t) (hc : powerRow c = false) :
    Ungranted s t ∨ (grantTo c).isSome = true := by
  have hrow : powerRow c = true → Ungranted s t ∨ (grantTo c).isSome = true := by
    intro h
    rw [hc] at h
    cases h
  cases h with
  | outer h => exact .inl (h.ungranted rfl id)
  | discarded h => exact .inl (h.ungranted rfl fun he => by rw [State.discardStep, he]; rfl)
  | granted _ _ _ _ _ hgrant => exact .inr hgrant
  | ended _ hst hwork h =>
    obtain ⟨v, hv, ht⟩ := h.scanned
    exact .inl ⟨(ht.order.trans hv.order).trans hwork.order, fun _ => h.engine⟩
  | stored _ _ h => exact .inl (h.ungranted rfl id)
  | defrosted _ _ h => exact .inl (h.ungranted rfl id)
  | periodSet h => exact .inl (h.ungranted rfl id)
  | timeoutSet h => exact .inl (h.ungranted rfl id)
  | clockSet _ h => exact .inl (h.ungranted rfl id)
  | doorLong h => exact .inl (h.ungranted rfl id)
  | @ticked tick => exact .inl ((Scanned.startScan (s.takeTick tick)).ungranted rfl rfl)
  | polled => exact .inl ((Scanned.endPoll s _ _ _).ungranted rfl rfl)
  | second | lineSet | doorOpened | doorShut | missed | unmarked => exact .inl ⟨rfl, id⟩
  | powerLost _ _ hr => exact hrow hr
  | resumed _ hr => exact hrow hr
  | blankStarted _ hr => exact hrow hr
  | resumeCut _ _ hr => exact hrow hr
  | blankCut _ hr => exact hrow hr

/-- A command that is no power row leaves the order and begins nothing, or is the row that its requester is granted by. -/
theorem exec_ungranted {c : Instr} {s t : State} (hc : powerRow c = false) (h : exec c s = .next t) :
    Ungranted s t ∨ ∃ q : Requester, grantTo c = some q ∧ GrantedTo q s t := by
  rcases (exec_changed h).ungranted hc with hu | hgrant
  · exact .inl hu
  · obtain ⟨q, hq⟩ := Option.isSome_iff_exists.mp hgrant
    rcases exec_grant_cases hq h with rfl | hg
    · exact .inl ⟨rfl, id⟩
    · exact .inr ⟨q, hq, hg⟩

theorem orderMovesOnlyAtAGrant : OrderMovesOnlyAtAGrant := by
  intro c s t hc h
  rcases exec_ungranted hc h with hu | ⟨q, hq, hg⟩
  · exact .inl hu.order
  · obtain ⟨-, he, -⟩ := mayGrant_iff.mp hg.may
    exact .inr ⟨by rw [hq]; rfl, he, Option.isSome_iff_ne_none.mp hg.engine⟩

/-- While a requester waits, the steps that begin ahead of it are at most the places above its own. -/
theorem grantsAhead_le_idxOf (r : Requester) (cs : List Instr) (s : State) (hs : OrderRight s) :
    grantsAhead r cs s ≤ s.order.idxOf r := by
  induction cs generalizing s with
  | nil => exact Nat.zero_le _
  | cons c cs ih =>
    obtain ⟨t, ht⟩ := exec_next c s
    unfold grantsAhead
    split
    · exact Nat.zero_le _
    · rename_i hgo
      rw [not_or, Bool.not_eq_true, Bool.not_eq_false] at hgo
      obtain ⟨hrow, hwait⟩ := hgo
      rw [ht]
      dsimp only
      rcases exec_ungranted hrow ht with hu | ⟨q, hq, hg⟩
      · have hright : OrderRight t := by
          unfold OrderRight
          rw [hu.order]
          exact hs
        have hle := ih t hright
        rw [hu.order] at hle
        rw [if_neg]
        · exact hle
        · rintro ⟨hidle, hbusy⟩
          rw [hu.engine (Option.isNone_iff_eq_none.mp hidle)] at hbusy
          cases hbusy
      · obtain ⟨-, he, -⟩ := mayGrant_iff.mp hg.may
        rw [if_pos ⟨by rw [he]; rfl, hg.engine⟩]
        split
        · exact Nat.zero_le _
        · rename_i hother
          have hle := ih t (hg.orderRight hs)
          have hup := hg.moves_up hs hwait fun hqr => hother (by rw [hq, hqr])
          omega

/-- Settles O21. -/
theorem waitingRequesterGrantedWithinFour : Obligations.WaitingRequesterGrantedWithinFour :=
  ⟨grantMovesTheWaitingUp, orderMovesOnlyAtAGrant,
    fun r cs s hs => (grantsAhead_le_idxOf r cs s hs).trans (hs.idxOf_le r)⟩

end Sys2Proof.Machine
end

section
/-!
PROOFS. What the end of any port's step does: a command whose ID names no record it takes is refused and changes nothing,
and a discarded step makes the changes of a whole one (R3 to R5, R11, R17, R177).
-/
namespace Sys2Proof.Machine

/-! ### The end of a port's step, by what its work comes to -/

/-- A port's step ends in what its work comes to, the engine free and the port in RESULT. -/
theorem exec_ends_of_work {s u : State} {p : PortId} {cmd : PortCommand} {inp : StepInputs} {row : StepPhase → Instr}
    {res : Result} (h : s.stepIs p cmd inp) (hr : stepRow p cmd = some row) (hwork : portWork p inp s cmd = (u, res)) :
    exec (row .ends) s = .next (u.stepEnds p res) := by
  rw [exec_ends_of_stepRow hr h, hwork]

/-- The answer to a command whose ID no record holds. -/
theorem portWork_of_unheld {s : State} {p : PortId} {cmd : PortCommand} {inp : StepInputs} {id : ConsignmentId}
    (hid : namedId cmd = some id) (hnone : s.findRecord id = none) :
    portWork p inp s cmd = (s, resultOf .notFound cmd.code []) := by
  cases cmd with
  | discard => cases hid; simp only [portWork, discardWork, hnone]; rfl
  | find => cases hid; simp only [portWork, findWork, hnone]; rfl
  | move => cases hid; simp only [portWork, moveWork, hnone]; rfl
  | moveTrial => cases hid; simp only [portWork, trialWork, hnone]; rfl
  | offer => cases hid; simp only [portWork, offerWork, hnone]; rfl
  | withdraw => cases hid; simp only [portWork, withdrawWork, hnone]; rfl
  | confirm => cases hid; simp only [portWork, confirmWork, hnone]; rfl
  | readStatement => cases hid; simp only [portWork, readStatementWork, hnone]; rfl
  | retire => cases hid; simp only [portWork, retireWork, hnone]; rfl
  | admitFresh | admitCarried | walk | walkNext | moveAll | setClass | setClassUnset | setCompartmentOff | setClock
    | setUnitId => cases hid

/-- The answer to a command whose record is in a state it does not take. -/
theorem portWork_of_unfit {s : State} {p : PortId} {cmd : PortCommand} {inp : StepInputs} {id : ConsignmentId}
    {i : SlotNo} {r : Record} (hid : namedId cmd = some id) (hfound : s.findRecord id = some (i, r))
    (hunfit : stateFits cmd r.custody = false) : portWork p inp s cmd = (s, resultOf .wrongState cmd.code []) := by
  cases cmd with
  | find | readStatement => cases hunfit
  | discard =>
    cases hid
    cases hc : r.custody with
    | aboard => rw [hc] at hunfit; cases hunfit
    | offered | closed => simp only [portWork, discardWork, hfound, hc]; rfl
  | move =>
    cases hid
    cases hc : r.custody with
    | aboard => rw [hc] at hunfit; cases hunfit
    | offered | closed => simp only [portWork, moveWork, hfound, hc]; rfl
  | moveTrial =>
    cases hid
    cases hc : r.custody with
    | aboard | offered => rw [hc] at hunfit; cases hunfit
    | closed => simp only [portWork, trialWork, hfound, Record.live, Custody.live, hc]; rfl
  | offer =>
    cases hid
    cases hc : r.custody with
    | aboard => rw [hc] at hunfit; cases hunfit
    | offered | closed => simp only [portWork, offerWork, hfound, hc]; rfl
  | withdraw =>
    cases hid
    cases hc : r.custody with
    | offered => rw [hc] at hunfit; cases hunfit
    | aboard | closed => simp only [portWork, withdrawWork, hfound, hc]; rfl
  | confirm =>
    cases hid
    cases hc : r.custody with
    | offered => rw [hc] at hunfit; cases hunfit
    | aboard | closed => simp only [portWork, confirmWork, hfound, hc]; rfl
  | retire =>
    cases hid
    cases hc : r.custody with
    | closed => rw [hc] at hunfit; cases hunfit
    | aboard | offered => simp only [portWork, retireWork, hfound, hc]; rfl
  | admitFresh | admitCarried | walk | walkNext | moveAll | setClass | setClassUnset | setCompartmentOff | setClock
    | setUnitId => cases hid

/-- Settles O22: the search for the ID, and then the state of the record it finds, decide before anything else does. -/
theorem idCommandsRefusedByTheirRecord : Obligations.IdCommandsRefusedByTheirRecord := by
  constructor
  · intro p cmd id row inp s hr hid h hfree
    exact exec_ends_of_work h hr (portWork_of_unheld hid (findRecord_none.mpr hfree))
  · intro p cmd id row inp i r s hr hid h hids hat hunfit
    exact exec_ends_of_work h hr (portWork_of_unfit hid (findRecord_idAt hids hat) hunfit)

/-! ### No work sees the engine -/

/-- A refused admission's changes are those of its state with another engine. -/
theorem refuseAdmission_withEngine (row : CommandRow) (code : ResultCode) (s : State) (e : Option StepInProgress) :
    refuseAdmission row code { s with engine := e }
      = ({ (refuseAdmission row code s).1 with engine := e }, (refuseAdmission row code s).2) := by
  unfold refuseAdmission
  split <;> rfl

/-- A walk reports the same slot whatever step is in progress. -/
theorem walkFrom_withEngine (row : CommandRow) (inp : StepInputs) (p : PortId) (f : WalkFilter) (s : State)
    (e : Option StepInProgress) :
    walkFrom row inp p f { s with engine := e }
      = ({ (walkFrom row inp p f s).1 with engine := e }, (walkFrom row inp p f s).2) := by
  have hport : ({ s with engine := e } : State).port p = s.port p := by cases p <;> rfl
  have hmatch : ({ s with engine := e } : State).walkMatch f (s.port p).cursor = s.walkMatch f (s.port p).cursor := rfl
  unfold walkFrom
  rw [hport, hmatch]
  cases s.walkMatch f (s.port p).cursor <;> cases p <;> rfl

/-- A record is taken aboard alike whatever step is in progress. -/
theorem takeAboard_withEngine (s : State) (i : SlotNo) (r : Record) (e : Option StepInProgress) :
    ({ s with engine := e } : State).takeAboard i r = { s.takeAboard i r with engine := e } := by
  have hexempt : ∀ u : State, ({ u with engine := e } : State).exemptFromGap i = { u.exemptFromGap i with engine := e } := by
    intro u
    unfold State.exemptFromGap
    split <;> rfl
  exact congrArg (State.raise · _) (hexempt ((s.setSlot i (some r)).countIn r.cls r.comp))

/-- A port's walk is set alike whatever step is in progress. -/
theorem setPort_withEngine (s : State) (p : PortId) (x : Port) (e : Option StepInProgress) :
    ({ s with engine := e } : State).setPort p x = { s.setPort p x with engine := e } := by
  cases p <;> rfl

/-- Nor does any work of a port's step look at the step in progress or change it. -/
theorem portWork_withEngine (p : PortId) (inp : StepInputs) (s : State) (cmd : PortCommand)
    (e : Option StepInProgress) :
    portWork p inp { s with engine := e } cmd
      = ({ (portWork p inp s cmd).1 with engine := e }, (portWork p inp s cmd).2) := by
  have hfind : ∀ id, ({ s with engine := e } : State).findRecord id = s.findRecord id := fun _ => rfl
  have hchecks : ∀ id cls comp, ({ s with engine := e } : State).admitChecks inp id cls comp
      = s.admitChecks inp id cls comp := fun _ _ _ => rfl
  have hport : ({ s with engine := e } : State).port p = s.port p := by cases p <;> rfl
  cases cmd with
  | admitFresh id cls comp =>
    simp only [portWork, admitFreshWork, hchecks]
    split
    · exact refuseAdmission_withEngine _ _ _ _
    · exact congrArg (·, _) (takeAboard_withEngine _ _ _ _)
  | admitCarried st cls comp =>
    simp only [portWork, admitCarriedWork, hchecks]
    split
    · split
      · exact refuseAdmission_withEngine _ _ _ _
      · exact congrArg (·, _) (takeAboard_withEngine _ _ _ _)
    · exact refuseAdmission_withEngine _ _ _ _
  | discard id =>
    simp only [portWork, discardWork, hfind]
    split
    · rfl
    · split <;> rfl
  | find id =>
    simp only [portWork, findWork, hfind]
    split <;> rfl
  | walk f =>
    cases f with
    | none => rfl
    | some f =>
      simp only [portWork, walkWork, hport, setPort_withEngine]
      exact walkFrom_withEngine _ _ _ _ _ _
  | walkNext =>
    simp only [portWork, walkNextWork, hport]
    split
    · exact walkFrom_withEngine _ _ _ _ _ _
    · rfl
  | move id dest =>
    simp only [portWork, moveWork, hfind]
    split
    · rfl
    · split
      · split
        · rfl
        · split <;> rfl
      · rfl
      · rfl
  | moveTrial | moveAll | setClock => rfl
  | offer id own =>
    simp only [portWork, offerWork, hfind]
    split
    · rfl
    · split
      · split <;> rfl
      · rfl
      · rfl
  | withdraw id =>
    simp only [portWork, withdrawWork, hfind]
    split
    · rfl
    · split <;> rfl
  | confirm id receiver =>
    simp only [portWork, confirmWork, hfind]
    split
    · rfl
    · split
      · split
        · rfl
        · split <;> rfl
      · rfl
      · rfl
  | readStatement id =>
    simp only [portWork, readStatementWork, hfind]
    split
    · rfl
    · split <;> rfl
  | retire id force =>
    simp only [portWork, retireWork, hfind]
    split
    · rfl
    · split
      · split <;> rfl
      · rfl
      · rfl
  | setClass k v =>
    simp only [portWork, setClassWork]
    split
    · rfl
    · split <;> rfl
  | setClassUnset k =>
    simp only [portWork, setClassUnsetWork]
    split <;> rfl
  | setCompartmentOff c v =>
    simp only [portWork, setCompartmentOffWork]
    split <;> rfl
  | setUnitId v =>
    have hempty : ({ s with engine := e } : State).tableEmpty = s.tableEmpty := rfl
    simp only [portWork, setUnitIdWork, hempty]
    split <;> rfl

/-! ### A step whose result is discarded -/

/-- Whatever its result's fate, the end of a step on main power is its finish. -/
theorem endStep_eq_finish {s : State} {st : StepInProgress} (hp : s.power = .present) (he : s.engine = some st)
    {kind : StepWork → Bool} (hk : kind st.work = true) : endStep kind s = s.finish st := by
  simp [endStep, he, State.powered, hp, hk]

/-- A port's step row ends that port's step, discarded or not, by its finish. -/
theorem exec_ends_eq_finish {s : State} {st : StepInProgress} {p : PortId} {cmd : PortCommand}
    {row : StepPhase → Instr} (hp : s.power = .present) (he : s.engine = some st) (hw : st.work = .port p cmd)
    (hr : stepRow p cmd = some row) : exec (row .ends) s = .next (s.finish st) := by
  have hends : ∀ kind : PortCommand → Bool, kind cmd = true → endStep (portKind p kind) s = s.finish st := by
    intro kind hk
    exact endStep_eq_finish hp he (by simp [hw, portKind, hk])
  cases p <;> cases cmd <;> first
    | (cases hr; done)
    | (cases hr; exact congrArg Host.Outcome.next (hends _ rfl))

/-- What a step's work leaves of the ports' phases: all as they were. -/
theorem portWork_phase (p : PortId) (inp : StepInputs) (s : State) (cmd : PortCommand) (q : PortId) :
    ((portWork p inp s cmd).1.port q).phase = (s.port q).phase :=
  (portWork_worked (st := { work := .port p cmd, inputs := inp, discarded := false }) rfl).quiet.phase q

/-- The end of a port's step that a PORT RESET met: the changes of the whole one, the walk of a walk step cleared, and no
result placed. -/
theorem exec_ends_of_discarded {s : State} {p : PortId} {cmd : PortCommand} {inp : StepInputs}
    {row : StepPhase → Instr} (h : s.stepIs p cmd inp) (hr : stepRow p cmd = some row) :
    exec (row .ends) { s with engine := some { work := .port p cmd, inputs := inp, discarded := true } }
      = .next (if cmd.walks then (portWork p inp s cmd).1.freeEngine.clearWalk p
          else (portWork p inp s cmd).1.freeEngine) := by
  have hpower : ({ s with engine := some { work := .port p cmd, inputs := inp, discarded := true } } : State).power
      = .present := h.1
  rw [exec_ends_eq_finish hpower rfl rfl hr]
  simp only [State.finish, State.finishPort, portWork_withEngine, if_true]
  rfl

/-- Settles O23: both ends free the engine of the state that the work comes to, so they differ in what follows for the
port alone, the result placed or the walk cleared. -/
theorem discardedStepPlacesNoResult : Obligations.DiscardedStepPlacesNoResult := by
  intro p cmd row inp s t hr h ht
  rw [exec_ends_of_stepRow hr h] at ht
  cases ht
  have hphase := portWork_phase p inp s cmd p
  refine ⟨_, exec_ends_of_discarded h hr, ?_⟩
  generalize (portWork p inp s cmd).1 = u at hphase ⊢
  cases hwalks : cmd.walks with
  | true =>
    refine ⟨?_, ?_, ?_, ?_, ?_, ?_, ?_, ?_, ?_, ?_, ?_, fun _ => ⟨?_, ?_⟩, fun q hq => ?_⟩
    iterate 9 cases p <;> rfl
    · exact Eq.trans (by cases p <;> rfl) hphase
    · cases p <;> rfl
    · cases p <;> rfl
    · cases p <;> rfl
    · cases p <;> cases q <;> first | rfl | exact absurd rfl hq
  | false =>
    refine ⟨?_, ?_, ?_, ?_, ?_, ?_, ?_, ?_, ?_, ?_, ?_, fun hcmd => ?_, fun q hq => ?_⟩
    iterate 9 cases p <;> rfl
    · exact Eq.trans (by cases p <;> rfl) hphase
    · cases p <;> rfl
    · rcases hcmd with ⟨f, rfl⟩ | rfl <;> cases hwalks
    · cases p <;> cases q <;> first | rfl | exact absurd rfl hq

end Sys2Proof.Machine
end

section
/-!
PROOFS. The commands that change one record in its step: DISCARD, RETIRE, MOVE and its trial, OFFER, WITHDRAW and the
lapse, CONFIRM (R111, R114 to R119, R128 to R137, R143).
-/
namespace Sys2Proof.Machine

/-! ### DISCARD and RETIRE -/

/-- DISCARD of an ABOARD record comes to a FREE slot and the two counts lowered. -/
theorem discardWork_aboard {s : State} {id : ConsignmentId} {i : SlotNo} {r : Record} {l : LiveFields}
    (hfound : s.findRecord id = some (i, r)) (hc : r.custody = .aboard l) :
    discardWork id s = ((s.setSlot i none).countOut r.cls r.comp, resultOf .ok 0x12 [BitVec.ofNat 8 i.val]) := by
  simp only [discardWork, hfound, hc]
  rfl

/-- RETIRE of a CLOSED record. -/
theorem retireWork_closed {s : State} {id : ConsignmentId} {force : Bool} {i : SlotNo} {r : Record} {f : ClosedFields}
    (hfound : s.findRecord id = some (i, r)) (hc : r.custody = .closed f) :
    retireWork id force s =
      if f.statementRead = false ∧ force = false then (s, resultOf .unread 0x24 [])
      else (s.setSlot i none, resultOf .ok 0x24 [BitVec.ofNat 8 i.val]) := by
  simp only [retireWork, hfound, hc]
  by_cases hread : f.statementRead = false ∧ force = false
  · rw [if_pos hread, if_neg (by simp [hread])]
    rfl
  · rw [if_neg hread, if_pos (by simpa [or_iff_not_imp_left] using hread)]
    rfl

theorem discardFreesTheSlot : DiscardFreesTheSlot := by
  intro id inp i r l s h hids hat hc
  exact exec_ends_of_work (row := .discardStep) h rfl (discardWork_aboard (findRecord_idAt hids hat) hc)

theorem retireFreesAReadStatement : RetireFreesAReadStatement := by
  intro p id force inp i r f s h hids hat hc
  have hwork := retireWork_closed (force := force) (findRecord_idAt hids hat) hc
  have hrow : stepRow p (.retire id force) = some (.retireStep p) := by cases p <;> rfl
  split
  · next hread => exact exec_ends_of_work h hrow (hwork.trans (if_pos hread))
  · next hread => exact exec_ends_of_work h hrow (hwork.trans (if_neg hread))

/-- Settles O39, by its two parts. -/
theorem discardAndRetireFreeASlot : Obligations.DiscardAndRetireFreeASlot :=
  ⟨discardFreesTheSlot, retireFreesAReadStatement⟩

/-! ### MOVE -/

/-- MOVE to no ACTIVE compartment. -/
theorem moveWork_unnamed {s : State} {inp : StepInputs} {id : ConsignmentId} {dest : Byte} {i : SlotNo} {r : Record}
    {l : LiveFields} (hfound : s.findRecord id = some (i, r)) (hc : r.custody = .aboard l)
    (hdest : ∀ c : CompNo, ¬namesActive inp dest c) :
    moveWork inp id dest s = (s, resultOf .badCompartment 0x18 []) := by
  simp only [moveWork, hfound, hc, activeField_none.mpr hdest]
  rfl

/-- MOVE to an ACTIVE compartment, the record's own or another. -/
theorem moveWork_named {s : State} {inp : StepInputs} {id : ConsignmentId} {dest : Byte} {i : SlotNo} {r : Record}
    {l : LiveFields} {c : CompNo} (hfound : s.findRecord id = some (i, r)) (hc : r.custody = .aboard l)
    (hdest : namesActive inp dest c) :
    moveWork inp id dest s =
      (if c = r.comp then s else s.moveRecord inp i r l c,
        resultOf .ok 0x18 ([BitVec.ofNat 8 i.val, BitVec.ofNat 8 (r.comp.val + 1), BitVec.ofNat 8 (c.val + 1)]
          ++ beBytes 2 (doorFigure inp r l))) := by
  simp only [moveWork, hfound, hc, activeField_some.mpr hdest]
  rfl

/-- An ABOARD record moved: its figure folded and its base the destination's. -/
theorem moveTo_aboard {r : Record} {inp : StepInputs} {l : LiveFields} {c : CompNo} (hc : r.custody = .aboard l) :
    r.moveTo inp l c =
      { r with
        comp := c
        custody := .aboard { l with doorStored := doorFigure inp r l, doorBase := inp.comps[c].openings } } := by
  simp only [Record.moveTo, Record.withLive, hc, doorExposures_eq]

/-- What a move to another compartment makes of the table. -/
theorem moveRecord_eq {s : State} {inp : StepInputs} {i : SlotNo} {r : Record} {l : LiveFields} {c : CompNo}
    (hc : r.custody = .aboard l) (hne : c ≠ r.comp) :
    s.moveRecord inp i r l c =
      { s with
        slots := put s.slots i (some
          { r with
            comp := c
            custody := .aboard { l with doorStored := doorFigure inp r l, doorBase := inp.comps[c].openings } })
        occupancy := put (put s.occupancy r.comp (s.occupancy[r.comp] - 1)) c (s.occupancy[c] + 1) } := by
  have hleft : (put s.occupancy r.comp (s.occupancy[r.comp] - 1))[c] = s.occupancy[c] := put_ne _ _ hne.symm
  simp only [State.moveRecord, State.shiftOccupancy, State.setSlot, moveTo_aboard hc, hleft]

/-- Folded and taken from the destination's base, the door figure is the one before. -/
theorem doorFigure_folded (inp : StepInputs) (r : Record) (l : LiveFields) (c : CompNo) :
    doorFigure inp { r with comp := c }
      { l with doorStored := doorFigure inp r l, doorBase := inp.comps[c].openings } = doorFigure inp r l := by
  have hbound : doorFigure inp r l ≤ 65535 := Nat.min_le_left _ _
  rw [doorFigure, BitVec.sub_self, BitVec.toNat_zero, Nat.zero_add, Nat.min_eq_right hbound]

/-- Settles O29. -/
theorem moveFoldsTheDoorExposures : Obligations.MoveFoldsTheDoorExposures := by
  intro id dest inp i r l s h hids hat hc
  have hfound := findRecord_idAt hids hat
  refine ⟨fun hdest => exec_ends_of_work (row := .moveStep) h rfl (moveWork_unnamed hfound hc hdest),
    fun c hdest => ⟨fun heq => ?_, fun hne => ?_, doorFigure_folded inp r l c⟩⟩
  · have hwork := moveWork_named hfound hc hdest
    rw [if_pos heq] at hwork
    exact exec_ends_of_work (row := .moveStep) h rfl hwork
  · have hwork := moveWork_named hfound hc hdest
    rw [if_neg hne, moveRecord_eq hc hne] at hwork
    exact exec_ends_of_work (row := .moveStep) h rfl hwork

/-! ### MOVE with TRIAL -/

/-- The byte of four bits. -/
theorem fourBits_getLsbD (a b c d : Prop) [Decidable a] [Decidable b] [Decidable c] [Decidable d] :
    let x : Byte := (if a then 1 else 0) + (if b then 2 else 0) + (if c then 4 else 0) + (if d then 8 else 0)
    (x.getLsbD 0 = true ↔ a) ∧ (x.getLsbD 1 = true ↔ b) ∧ (x.getLsbD 2 = true ↔ c) ∧ (x.getLsbD 3 = true ↔ d)
      ∧ x.toNat < 16 := by
  by_cases a <;> by_cases b <;> by_cases c <;> by_cases d <;> simp_all

/-- The bits of a trial's results. -/
theorem trialResults_bits (k : ClassLimits) (temp : Option Int) :
    ((trialResults k temp).getLsbD 0 = true ↔ ∃ t : Int, temp = some t ∧ k.upper < t)
      ∧ ((trialResults k temp).getLsbD 1 = true ↔ ∃ t : Int, temp = some t ∧ k.hard ≤ t)
      ∧ ((trialResults k temp).getLsbD 2 = true ↔ ∃ (t : Int) (low : LowLimits),
          temp = some t ∧ k.low = some low ∧ t < low.lower)
      ∧ ((trialResults k temp).getLsbD 3 = true ↔ ∃ (t : Int) (low : LowLimits),
          temp = some t ∧ k.low = some low ∧ t ≤ low.floor)
      ∧ (trialResults k temp).toNat < 16 := by
  cases temp with
  | none => simp [trialResults]
  | some t =>
    obtain ⟨h0, h1, h2, h3, hlt⟩ := fourBits_getLsbD (k.upper < t) (k.hard ≤ t)
      (k.low.any (fun l => decide (t < l.lower)) = true) (k.low.any (fun l => decide (t ≤ l.floor)) = true)
    refine ⟨h0.trans (by simp), h1.trans (by simp), h2.trans ?_, h3.trans ?_, hlt⟩
    · simp [Option.any_eq_true]
    · simp [Option.any_eq_true]

/-- A trial that names no ACTIVE compartment. -/
theorem trialWork_unnamed {s : State} {inp : StepInputs} {id : ConsignmentId} {dest : Byte} {i : SlotNo} {r : Record}
    {l : LiveFields} (hfound : s.findRecord id = some (i, r)) (hl : r.live = some l)
    (hdest : ∀ c : CompNo, ¬namesActive inp dest c) :
    trialWork inp id dest s = resultOf .badCompartment 0x18 [] := by
  simp only [trialWork, hfound, hl, activeField_none.mpr hdest]
  rfl

/-- A trial's answer from its destination's snapshot. -/
theorem trialWork_named {s : State} {inp : StepInputs} {id : ConsignmentId} {dest : Byte} {i : SlotNo} {r : Record}
    {l : LiveFields} {c : CompNo} {k : ClassLimits} {n : Snapshot} (hfound : s.findRecord id = some (i, r))
    (hl : r.live = some l) (hdest : namesActive inp dest c) (hk : s.classes[r.cls] = some k)
    (hn : inp.comps[c].snapshot = some n) :
    trialWork inp id dest s = resultOf .ok 0x18
      ([BitVec.ofNat 8 i.val, BitVec.ofNat 8 (c.val + 1), n.reading.source.byte]
        ++ intBytes (n.reading.temp.getD (-32768)) ++ [trialResults k n.reading.temp]) := by
  have hreading : inp.comps[c].latestReading = n.reading := by rw [Compartment.latestReading, hn]; rfl
  simp only [trialWork, hfound, hl, activeField_some.mpr hdest, hk, trialAnswer, hreading]
  rfl

/-- Settles O30. -/
theorem trialAnswersAndChangesNothing : Obligations.TrialAnswersAndChangesNothing := by
  intro id dest inp i r l s h hids hat hl
  have hfound := findRecord_idAt hids hat
  have hends : ∀ res : Result, trialWork inp id dest s = res →
      exec (.trialMoveStep .ends) s = .next (s.stepEnds .unit res) :=
    fun res hres => exec_ends_of_work (row := .trialMoveStep) h rfl (congrArg (Prod.mk s) hres)
  refine ⟨fun hdest => hends _ (trialWork_unnamed hfound hl hdest), fun c k n hdest hk hn => ?_⟩
  exact ⟨trialResults k n.reading.temp, hends _ (trialWork_named hfound hl hdest hk hn), trialResults_bits k _⟩

end Sys2Proof.Machine
end

section
/-!
PROOFS. Handover in its steps: OFFER, WITHDRAW, the lapse and CONFIRM, and the two tests that switch a compartment off and
store the identity (R50, R128 to R137, R159).
-/
namespace Sys2Proof.Machine

/-! ### OFFER -/

theorem offerTimeoutUsed_eq (stored own : Nat) : offerTimeoutUsed stored own
    = if own = 0 then stored else if own < 10 then 10 else if 3600 < own then 3600 else own := by
  have hclamp := clampNat_eq (lo := 10) (hi := 3600) (by decide) own
  rw [offerTimeoutUsed, ← hclamp]
  rfl

/-- OFFER is ADJUSTED exactly when it carries a timeout of its own that was clamped. -/
theorem offer_adjustedCode (stored own : Nat) :
    adjustedCode (own != 0 && clampTimeout own != own)
      = if own = 0 ∨ offerTimeoutUsed stored own = own then ResultCode.ok else .adjusted := by
  unfold adjustedCode offerTimeoutUsed
  by_cases hzero : own = 0
  · simp [hzero]
  · by_cases hsame : clampTimeout own = own <;> simp [hzero, hsame]

/-- What an offer makes of the table and the queue. -/
theorem makeOffer_eq (s : State) (i : SlotNo) (r : Record) (l : LiveFields) (d : RouteTime) :
    s.makeOffer i r l d =
      { s with
        slots := put s.slots i (some { r with custody := .offered l d })
        offers := insertOffer { slot := i, deadline := d } s.offers
        lapseWaiting := lapseDue s (insertOffer { slot := i, deadline := d } s.offers) } := by
  rw [State.makeOffer, retestHead_eq]
  rfl

/-- OFFER of an ABOARD record with the queue full. -/
theorem offerWork_full {s : State} {inp : StepInputs} {id : ConsignmentId} {own : Nat} {i : SlotNo} {r : Record}
    {l : LiveFields} (hfound : s.findRecord id = some (i, r)) (hc : r.custody = .aboard l) (hfull : 16 ≤ s.offers.length) :
    offerWork inp id own s = (s, resultOf .offersFull 0x20 []) := by
  simp only [offerWork, hfound, hc]
  rw [if_pos (show Config.offerCapacity ≤ s.offers.length from hfull)]
  rfl

/-- OFFER of an ABOARD record with room in the queue. -/
theorem offerWork_room {s : State} {inp : StepInputs} {id : ConsignmentId} {own : Nat} {i : SlotNo} {r : Record}
    {l : LiveFields} (hfound : s.findRecord id = some (i, r)) (hc : r.custody = .aboard l) (hroom : s.offers.length < 16) :
    offerWork inp id own s =
      (s.makeOffer i r l (inp.now + BitVec.ofNat 32 (offerTimeoutUsed inp.offerTimeout own)),
        resultOf (if own = 0 ∨ offerTimeoutUsed inp.offerTimeout own = own then .ok else .adjusted) 0x20
          ([BitVec.ofNat 8 i.val] ++ beBytes 2 (offerTimeoutUsed inp.offerTimeout own))) := by
  simp only [offerWork, hfound, hc]
  rw [if_neg (show ¬Config.offerCapacity ≤ s.offers.length from Nat.not_le.mpr hroom), offer_adjustedCode inp.offerTimeout]
  rfl

/-- Settles O32. -/
theorem offerQueuesTheRecord : Obligations.OfferQueuesTheRecord := by
  intro p id own inp i r l s h hids hat hc used deadline q
  have hfound := findRecord_idAt hids hat
  have hused : offerTimeoutUsed inp.offerTimeout own = used := offerTimeoutUsed_eq _ _
  have hrow : stepRow p (.offer id own) = some (.offerStep p) := by cases p <;> rfl
  refine ⟨fun hfull => exec_ends_of_work h hrow (offerWork_full hfound hc hfull), fun hroom => ?_⟩
  have hwork := offerWork_room (inp := inp) (own := own) hfound hc hroom
  rw [hused, makeOffer_eq] at hwork
  exact exec_ends_of_work h hrow hwork

/-! ### WITHDRAW and the lapse -/

/-- What the end of an offer makes of the table and the queue. -/
theorem endOffer_eq (s : State) (i : SlotNo) (r : Record) (l : LiveFields) (n : Nat) :
    s.endOffer i r l n =
      { s with
        slots := put s.slots i (some { r with custody := .aboard l, lapses := n })
        offers := s.offers.filter (fun o => decide (o.slot ≠ i))
        lapseWaiting := lapseDue s (s.offers.filter (fun o => decide (o.slot ≠ i))) } := by
  rw [State.endOffer, retestHead_eq, removeOffer_eq]
  rfl

theorem withdrawReturnsTheRecord : WithdrawReturnsTheRecord := by
  intro p id inp i r l d s h hids hat hc q
  have hrow : stepRow p (.withdraw id) = some (.withdrawStep p) := by cases p <;> rfl
  have hwork : withdrawWork id s = (s.endOffer i r l r.lapses, resultOf .ok 0x21 [BitVec.ofNat 8 i.val]) := by
    simp only [withdrawWork, findRecord_idAt hids hat, hc]
    rfl
  rw [endOffer_eq] at hwork
  exact exec_ends_of_work h hrow hwork

/-- The head entry taken away leaves the rest of the queue. -/
theorem filter_head {o : Offer} {rest : List Offer} (hnd : ((o :: rest).map Offer.slot).Nodup) :
    (o :: rest).filter (fun x => decide (x.slot ≠ o.slot)) = rest := by
  rw [List.map_cons, List.nodup_cons] at hnd
  have hrest : ∀ x ∈ rest, x.slot ≠ o.slot := fun x hx he => hnd.1 (he ▸ List.mem_map_of_mem hx)
  rw [List.filter_cons_of_neg (by simp), List.filter_eq_self]
  exact fun x hx => decide_eq_true (hrest x hx)

/-- OFFER_DEADLINE_REACHED on main power. -/
theorem exec_offerDeadlineReached {s : State} (hp : s.power = .present) :
    exec .offerDeadlineReached s
      = .next (if lapseDue s s.offers = true then { s with lapseWaiting := true } else s) := by
  show Host.Outcome.next (if s.powered && s.headReached then { s with lapseWaiting := true } else s) = _
  rw [headReached_eq, State.powered, hp]
  rfl

theorem lapseTakesTheHeadOffer : LapseTakesTheHeadOffer := by
  intro o rest s hp hoffers
  refine ⟨fun hdue => ?_, fun hnot => ?_, fun inp r l d h hs hr hc => ?_⟩
  · rw [exec_offerDeadlineReached hp, if_pos hdue]
  · rw [exec_offerDeadlineReached hp, if_neg (by rw [hnot]; nofun)]
  · have hnd := hs.2.1
    rw [hoffers] at hnd
    have hwork : lapseWork s
        = (s.endOffer o.slot r l (satAdd Config.maxLapses r.lapses 1)).raise offerLapsedFlag := by
      simp only [lapseWork, hoffers, hr, hc]
    have hends : exec (.lapseStep .ends) s = .next (lapseWork s).freeEngine :=
      congrArg Host.Outcome.next (endStep_work (kind := (· == .lapse)) h rfl)
    rw [hends, hwork, endOffer_eq, hoffers, filter_head hnd]
    rfl

/-- Settles O34, by its two parts. -/
theorem offersEndByWithdrawalOrLapse : Obligations.OffersEndByWithdrawalOrLapse :=
  ⟨withdrawReturnsTheRecord, lapseTakesTheHeadOffer⟩

/-! ### CONFIRM -/

/-- What the close of a record makes of the table, the queue and the counts. -/
theorem closeRecord_eq (s : State) (i : SlotNo) (r : Record) (f : ClosedFields) :
    s.closeRecord i r f =
      { s with
        slots := put s.slots i (some { r with custody := .closed f })
        offers := s.offers.filter (fun o => decide (o.slot ≠ i))
        lapseWaiting := lapseDue s (s.offers.filter (fun o => decide (o.slot ≠ i)))
        useCount := put s.useCount r.cls (s.useCount[r.cls] - 1)
        occupancy := put s.occupancy r.comp (s.occupancy[r.comp] - 1) } := by
  rw [State.closeRecord, retestHead_eq, removeOffer_eq]
  rfl

/-- CONFIRM of an OFFERED record while the identity is unset. -/
theorem confirmWork_unset {s : State} {inp : StepInputs} {id : ConsignmentId} {receiver : Wide} {i : SlotNo} {r : Record}
    {l : LiveFields} {d : RouteTime} (hfound : s.findRecord id = some (i, r)) (hc : r.custody = .offered l d)
    (hunit : s.unitId = 0) : confirmWork inp id receiver s = (s, resultOf .unitUnset 0x22 []) := by
  simp only [confirmWork, hfound, hc]
  rw [if_pos hunit]
  rfl

/-- CONFIRM of an OFFERED record closes it with its checked fields. -/
theorem confirmWork_closes {s : State} {inp : StepInputs} {id : ConsignmentId} {receiver : Wide} {i : SlotNo}
    {r : Record} {l : LiveFields} {d : RouteTime} {k : ClassLimits} {f : ClosedFields}
    (hfound : s.findRecord id = some (i, r)) (hc : r.custody = .offered l d) (hunit : s.unitId ≠ 0)
    (hk : s.classes[r.cls] = some k) (hf : (closingFields inp s.unitId receiver k r l).withCheck r = f) :
    confirmWork inp id receiver s =
      (s.closeRecord i r f, resultOf .ok 0x22
        ([BitVec.ofNat 8 i.val, r.verdict.byte, r.statementCause.byte] ++ beBytes 2 f.checkWord.toNat)) := by
  simp only [confirmWork, hfound, hc, hk]
  rw [if_neg hunit, hf]
  rfl

/-- The custody of a record is no part of its statement. -/
theorem closedStatement_custody (r : Record) (x : Custody) (f : ClosedFields) :
    closedStatement { r with custody := x } f = closedStatement r f := rfl

/-- Settles O35. -/
theorem confirmClosesTheRecord : Obligations.ConfirmClosesTheRecord := by
  intro id receiver inp i r l d k s h hids hat hc hk
  have hfound := findRecord_idAt hids hat
  refine ⟨fun hunit => exec_ends_of_work (row := .closeStep) h rfl (confirmWork_unset hfound hc hunit),
    fun hunit => ?_⟩
  have hverifies : verifies (closedStatement r ((closingFields inp s.unitId receiver k r l).withCheck r)) = true :=
    closedStatement_verifies hunit (by rw [withCheck_checkWord, form_withCheck])
  refine ⟨((closingFields inp s.unitId receiver k r l).withCheck r).checkWord, ?_, ?_⟩
  · rw [closedStatement_custody]
    exact hverifies
  · have hwork := confirmWork_closes (inp := inp) (receiver := receiver) hfound hc hunit hk rfl
    rw [closeRecord_eq] at hwork
    exact exec_ends_of_work (row := .closeStep) h rfl hwork

/-! ### SET COMPARTMENT with mode OFF, and SET UNIT ID -/

theorem compartmentTestSwitchesOff : CompartmentTestSwitchesOff := by
  intro c raw inp s h hoff clampTo v
  have hv : raw.clamped = v := raw.clamped_eq
  refine ⟨fun hused => ?_, fun hempty => ⟨serveProbes c s.comps[c].settings v s.probes, ?_, fun n => ?_⟩⟩
  · have hwork : setCompartmentOffWork c raw s = (s, resultOf .compartmentInUse 0x38 []) := by
      rw [setCompartmentOffWork, if_pos hused]
      rfl
    exact exec_ends_of_work (row := .compartmentTestStep) h rfl hwork
  · have hwork : setCompartmentOffWork c raw s = (s.storeOff c v,
        resultOf (if v = raw then .ok else .adjusted) 0x38 ([BitVec.ofNat 8 (c.val + 1)] ++ v.bytes)) := by
      rw [setCompartmentOffWork, if_neg (by omega), settingsAnswer, Settings.adjusted, adjustedCode_bne, hv]
      rfl
    exact exec_ends_of_work (row := .compartmentTestStep) h rfl hwork
  · have hnone : servedBy v n = false := by
      rw [servedBy, show v.active = false from hoff, Bool.false_and]
    rw [serveProbes_get, Probe.serve, hnone]
    by_cases hcomp : n.val / 2 = c.val
    · rw [if_neg (not_not.mpr hcomp)]
      cases hserved : servedBy s.comps[c].settings n with
      | false => rw [if_pos rfl, if_neg (by nofun)]
      | true =>
        rw [if_neg (by nofun), if_neg (by nofun), if_pos ⟨hcomp, rfl⟩]
        rfl
    · rw [if_pos hcomp, if_neg (fun h => hcomp h.1)]

theorem tableTestStoresTheIdentity : TableTestStoresTheIdentity := by
  intro v inp s h
  refine ⟨fun ⟨i, hi⟩ => ?_, fun hempty => ?_⟩
  · have hwork : setUnitIdWork v s = (s, resultOf .tableNotEmpty 0x4A []) := by
      rw [setUnitIdWork, if_neg (fun he => hi ((tableEmpty_iff s).mp he i))]
      rfl
    exact exec_ends_of_work (row := .tableTestStep) h rfl hwork
  · have hwork : setUnitIdWork v s = ({ s with unitId := v }, resultOf .ok 0x4A (beBytes 2 v.toNat)) := by
      rw [setUnitIdWork, if_pos ((tableEmpty_iff s).mpr hempty)]
      rfl
    exact exec_ends_of_work (row := .tableTestStep) h rfl hwork

/-- Settles O41, by its two parts. -/
theorem switchOffAndIdentityTests : Obligations.SwitchOffAndIdentityTests :=
  ⟨compartmentTestSwitchesOff, tableTestStoresTheIdentity⟩

end Sys2Proof.Machine
end

section
/-!
PROOFS. Taking consignments aboard: the checks of ADMIT in their order, the fresh record and the carried one (R98 to R100,
R104 to R110).
-/
namespace Sys2Proof.Machine

/-! ### Refusals -/

/-- An admission whose checks answer as its step does is checked in the order of R104. -/
theorem admissionChecked_of_refusals {p : PortId} {row : Instr} {command : Byte} {id : ConsignmentId} {cls : ClassNo}
    {comp : Byte} {inp : StepInputs} {s : State}
    (hrefuse : ∀ code : ResultCode, s.admitChecks inp id cls comp = .error code → exec row s =
      .next (State.stepEnds (if code = .tableFull then s.raise tableFullFlag else s) p (resultOf code command []))) :
    AdmissionChecked p row command id cls comp inp s := by
  obtain ⟨hzero, hcomp, hrest⟩ := admitChecks_spec s inp id cls comp
  refine ⟨fun h0 => hrefuse _ (hzero h0), fun h0 hc => hrefuse _ (hcomp h0 hc), fun c h0 hc => ?_⟩
  obtain ⟨hunset, hset⟩ := hrest c h0 hc
  refine ⟨fun hk => hrefuse _ (hunset hk), fun k hk => ?_⟩
  obtain ⟨hdup, hfull, -⟩ := hset k hk
  exact ⟨fun hheld => hrefuse _ (hdup hheld), fun hfree hslots => hrefuse _ (hfull hfree hslots)⟩

theorem stepRow_admitFresh (p : PortId) (id : ConsignmentId) (cls : ClassNo) (comp : Byte) :
    stepRow p (.admitFresh id cls comp) = some (.admitStep p) := by
  cases p <;> rfl

theorem stepRow_admitCarried (p : PortId) (st : List Byte) (cls : ClassNo) (comp : Byte) :
    stepRow p (.admitCarried st cls comp) = some (.admitStep p) := by
  cases p <;> rfl

theorem admitChecksInOrder : AdmitChecksInOrder := by
  intro p id cls comp inp s h
  refine admissionChecked_of_refusals fun code hcode => ?_
  refine exec_ends_of_work h (stepRow_admitFresh p id cls comp) ?_
  simp only [portWork, admitFreshWork, hcode]
  rfl

theorem carriedAdmitChecksInOrder : CarriedAdmitChecksInOrder := by
  intro p st cls comp inp s h hverifies
  refine admissionChecked_of_refusals fun code hcode => ?_
  have hcode : s.admitChecks inp (presentedId st) cls comp = .error code := hcode
  refine exec_ends_of_work h (stepRow_admitCarried p st cls comp) ?_
  simp only [portWork, admitCarriedWork, hverifies, if_true, hcode]
  rfl

/-- A unit number read from two bytes is 0 exactly when the bytes are. -/
theorem presentedUnit_eq_zero (st : List Byte) : presentedUnit st = 0 ↔ natAt 16 2 st = 0 := by
  have hlt : natAt 16 2 st < 256 ^ 2 := natAt_lt 16 2 st
  rw [presentedUnit, ← BitVec.toNat_inj, BitVec.toNat_ofNat, Nat.mod_eq_of_lt (by omega)]
  rfl

/-- A carry added once more is one subtracted from the overflow. -/
theorem carryAdd_fun : carryAdd = fun a w => if 65535 < a + w then a + w - 65535 else a + w := by
  funext a w
  exact carryAdd_eq a w

theorem verifies_iff (st : List Byte) : verifies st = true ↔ byteAt 0 st = 1 ∧ (byteAt 1 st).getLsbD 0 = false
    ∧ natAt 16 2 st ≠ 0
    ∧ natAt 74 2 st = 65535 - (wordsOf (st.take 74)).foldl (fun a w => if 65535 < a + w then a + w - 65535 else a + w) 0 := by
  rw [← carryAdd_fun, ne_eq, ← presentedUnit_eq_zero]
  simp only [verifies, Bool.and_eq_true, beq_iff_eq, bne_iff_ne, Bool.not_eq_true', and_assoc]
  rfl

theorem unverifiedStatementIsRefused : UnverifiedStatementIsRefused := by
  intro p st cls comp inp s h
  refine ⟨verifies_iff st, fun hnot => ?_⟩
  refine exec_ends_of_work h (stepRow_admitCarried p st cls comp) ?_
  simp only [portWork, admitCarriedWork, hnot, Bool.false_eq_true, if_false]
  rfl

/-- Settles O27, by its three parts. -/
theorem admissionRefusalsInOrder : Obligations.AdmissionRefusalsInOrder :=
  ⟨admitChecksInOrder, unverifiedStatementIsRefused, carriedAdmitChecksInOrder⟩

/-! ### The record taken aboard -/

/-- Checks passed, the lowest FREE slot is taken. -/
theorem admitChecks_passed {s : State} {inp : StepInputs} {id : ConsignmentId} {cls : ClassNo} {comp : Byte} {c : CompNo}
    {k : ClassLimits} {i : SlotNo} (h0 : id ≠ 0) (hc : namesActive inp comp c) (hk : s.classes[cls] = some k)
    (hfree : s.idFree id) (hi : s.slots[i] = none) (hlow : ∀ j : SlotNo, j < i → s.slots[j] ≠ none) :
    s.admitChecks inp id cls comp = .ok (c, k, i) := by
  obtain ⟨-, -, hrest⟩ := admitChecks_spec s inp id cls comp
  obtain ⟨-, hset⟩ := hrest c h0 hc
  obtain ⟨-, -, hok⟩ := hset k hk
  exact hok hfree i hi hlow

/-- Settles O26: the checks pass, and INTACT raises no flag. -/
theorem freshAdmissionWritesItsRecord : Obligations.FreshAdmissionWritesItsRecord := by
  intro p id cls comp c i inp s h h0 hc hset hfree hi hlow
  obtain ⟨k, hk⟩ := Option.ne_none_iff_exists'.mp hset
  refine exec_ends_of_work h (stepRow_admitFresh p id cls comp) ?_
  simp only [portWork, admitFreshWork, admitChecks_passed h0 hc hk hfree hi hlow, takeAboard_eq]
  have hintact : verdictFlag (freshRecord inp id cls c).verdict (freshRecord inp id cls c).comp = 0 := rfl
  rw [hintact, State.raise_zero]
  rfl

/-! ### The verdict and the cause of a carried record -/

theorem reasonOfByte_byte (x : ReasonCause) : reasonOfByte x.byte = some x := by
  cases x <;> rfl

/-- The carried reason cause: the one its field names when it names the verdict, and else the first of that verdict. -/
theorem presentedCause_spec {v : Verdict} (hv : v ≠ .intact) (b : Byte) :
    ∃ x : ReasonCause, presentedCause v b = some x ∧ x.verdict = v
      ∧ (x.byte = b
        ∨ ((∀ y : ReasonCause, y.byte = b → y.verdict ≠ v)
          ∧ (v = .watch → x = .watchWarm) ∧ (v = .unproven → x = .blind) ∧ (v = .broken → x = .hardHigh))) := by
  unfold presentedCause
  cases hf : (reasonOfByte b).filter (·.verdict == v) with
  | some x =>
    obtain ⟨hx, hxv⟩ := Option.filter_eq_some_iff.mp hf
    have hb : (x.byte == b) = true := List.find?_some (p := fun y : ReasonCause => y.byte == b) hx
    exact ⟨x, rfl, beq_iff_eq.mp hxv, .inl (beq_iff_eq.mp hb)⟩
  | none =>
    have hnone : ∀ y : ReasonCause, y.byte = b → y.verdict ≠ v := by
      rintro y rfl hy
      rw [reasonOfByte_byte, Option.filter_some, if_pos (beq_iff_eq.mpr hy)] at hf
      cases hf
    cases v with
    | intact => exact absurd rfl hv
    | watch => exact ⟨.watchWarm, rfl, rfl, .inr ⟨hnone, fun _ => rfl, nofun, nofun⟩⟩
    | unproven => exact ⟨.blind, rfl, rfl, .inr ⟨hnone, nofun, fun _ => rfl, nofun⟩⟩
    | broken => exact ⟨.hardHigh, rfl, rfl, .inr ⟨hnone, nofun, nofun, fun _ => rfl⟩⟩

/-- What the evaluation of a carried record reaches. -/
theorem mem_carriedTests {k : ClassLimits} {r : Record} {x : ReasonCause} : x ∈ carriedTests k r ↔
    BlindReached k r.blind x ∨ HardReached k r.peakHigh r.peakLow x ∨ BudgetReached k r.warm r.cold x := by
  rw [carriedTests, List.append_assoc (blindTest k r.blind), List.mem_append, List.mem_append, mem_blindTest,
    mem_hardTests, mem_budgetTests, or_assoc]

/-- The evaluated cause of a verdict above INTACT is the first cause reached of that verdict, and INTACT has none. -/
theorem evaluatedCause_spec (reached : List ReasonCause) :
    (evaluatedVerdict reached = .intact → evaluatedCause reached = .nothing)
      ∧ (evaluatedVerdict reached ≠ .intact → ∃ x : ReasonCause,
          FirstReached (· ∈ reached) (evaluatedVerdict reached) x ∧ evaluatedCause reached = .reason x) := by
  unfold evaluatedCause
  constructor
  · intro hintact
    rw [hintact, firstCause_intact]
    rfl
  · intro hne
    obtain ⟨x, hx, hfirst⟩ := firstCause_spec ((highestReached_spec reached .intact).reached_of_ne hne)
    exact ⟨x, hfirst, by rw [evaluatedVerdict, hx]; rfl⟩

/-- A peak as the statement presents it, clamped. -/
theorem presentedPeak_eq (t : Int) : presentedPeak t
    = if t = -32768 then none else some (if t < -400 then -400 else if 500 < t then 500 else t) := by
  rw [presentedPeak, clampTemp_eq]
  rfl

/-- A carried record's figures are those its statement gives, whatever the judgement. -/
theorem carriedRecord_judged (inp : StepInputs) (st : List Byte) (cls : ClassNo) (k : ClassLimits) (c : CompNo) :
    ∃ (v : Verdict) (x : Cause) (o : Option ReasonCause), carriedRecord inp st cls k c
      = { carriedFigures inp st cls c with verdict := v, cause := x, carriedCause := o } :=
  judgeCarried_judged _ _ _ _

/-- What a carried admission reads of a statement stands in its record as R106 and R109 give it. -/
theorem carriedRecord_takes (inp : StepInputs) (st : List Byte) (cls : ClassNo) (k : ClassLimits) (c : CompNo) :
    let r := carriedRecord inp st cls k c
    r.id = presentedId st ∧ r.cls = cls ∧ r.comp = c ∧ r.admittedAt = inp.now
      ∧ r.warm = min 16777215 (natAt 42 4 st) ∧ r.cold = min 16777215 (natAt 46 4 st) ∧ r.excursion = natAt 50 4 st
      ∧ r.blind = natAt 54 4 st ∧ r.peakHigh = presentedPeak (intAt 58 st) ∧ r.peakLow = presentedPeak (intAt 60 st)
      ∧ r.lapses = natAt 64 1 st ∧ r.carriedFrom = some (presentedUnit st)
      ∧ r.custody = .aboard { doorStored := natAt 62 2 st, doorBase := inp.comps[c].openings, tag := inp.tag } := by
  have hlapses : min 255 (natAt 64 1 st) = natAt 64 1 st := Nat.min_eq_right (Nat.le_of_lt_succ (natAt_lt 64 1 st))
  obtain ⟨v, x, o, hr⟩ := carriedRecord_judged inp st cls k c
  rw [hr]
  exact ⟨rfl, rfl, rfl, rfl, rfl, rfl, rfl, rfl, rfl, rfl, hlapses, rfl, rfl⟩

/-- The record of a carried admission takes the carried verdict when that stands above the evaluated one. -/
theorem judgeCarried_of_lt {v : Verdict} {o : Option ReasonCause} {reached : List ReasonCause} {r : Record}
    (h : (evaluatedVerdict reached).rank < v.rank) :
    judgeCarried v o reached r = { r with verdict := v, cause := .carried, carriedCause := o } := if_pos h

/-- And the evaluated one, with its own cause, otherwise. -/
theorem judgeCarried_of_le {v : Verdict} {o : Option ReasonCause} {reached : List ReasonCause} {r : Record}
    (h : v.rank ≤ (evaluatedVerdict reached).rank) :
    judgeCarried v o reached r
      = { r with verdict := evaluatedVerdict reached, cause := evaluatedCause reached, carriedCause := none } :=
  if_neg (Nat.not_lt.mpr h)

/-- What is taken aboard with its class and compartment named. -/
theorem takeAboard_of {s : State} {i : SlotNo} {r : Record} {cls : ClassNo} {c : CompNo} (hcls : r.cls = cls)
    (hcomp : r.comp = c) :
    s.takeAboard i r =
      State.raise
        { s with
          slots := put s.slots i (some r)
          useCount := put s.useCount cls (s.useCount[cls] + 1)
          occupancy := put s.occupancy c (s.occupancy[c] + 1)
          exposure :=
            if s.exposure.gapEnd.isSome = true ∧ s.exposure.gapCursor ≤ i then
              { s.exposure with gapExempt := put s.exposure.gapExempt i true }
            else s.exposure }
        (verdictFlag r.verdict c) := by
  subst hcls hcomp
  exact takeAboard_eq s i r

/-- Settles O28: the evaluated verdict is the witness, and the record is judged by which of the two verdicts stands
above. -/
theorem carriedAdmissionTakesTheStatement : Obligations.CarriedAdmissionTakesTheStatement := by
  intro p st cls comp c k i inp s h hverifies h0 hc hk hfree hi hlow peak carried
  obtain ⟨hid, hcls, hcomp, hnow, hwarm, hcold, hexc, hblind, hhigh, hlow', hlapses, hfrom, hcustody⟩ :=
    carriedRecord_takes inp st cls k c
  have hjudged : carriedRecord inp st cls k c = judgeCarried carried (presentedCause carried (byteAt 3 st))
      (carriedTests k (carriedFigures inp st cls c)) (carriedFigures inp st cls c) := rfl
  have htests : (· ∈ carriedTests k (carriedFigures inp st cls c)) = fun x : ReasonCause =>
      BlindReached k (carriedRecord inp st cls k c).blind x
        ∨ HardReached k (carriedRecord inp st cls k c).peakHigh (carriedRecord inp st cls k c).peakLow x
        ∨ BudgetReached k (carriedRecord inp st cls k c).warm (carriedRecord inp st cls k c).cold x := by
    funext x
    rw [hblind, hhigh, hlow', hwarm, hcold]
    exact propext mem_carriedTests
  have hchecks : s.admitChecks inp (presentedId st) cls comp = .ok (c, k, i) :=
    admitChecks_passed h0 hc hk hfree hi hlow
  refine ⟨carriedRecord inp st cls k c, evaluatedVerdict (carriedTests k (carriedFigures inp st cls c)), ?_, hid, hcls,
    hcomp, hnow, hwarm, hcold, hexc, hblind, hhigh.trans (presentedPeak_eq _), hlow'.trans (presentedPeak_eq _), hlapses,
    hfrom, hcustody, ?_⟩
  · refine exec_ends_of_work h (stepRow_admitCarried p st cls comp) ?_
    simp only [portWork, admitCarriedWork, hverifies, if_true, hchecks]
    rw [takeAboard_of hcls hcomp]
    rfl
  · dsimp only
    rw [← htests]
    refine ⟨highestReached_spec _ .intact, fun hlt => ?_, fun hle => ?_⟩
    · have hne : carried ≠ .intact := by
        intro hintact
        rw [hintact] at hlt
        exact absurd hlt (Nat.not_lt_zero _)
      obtain ⟨x, hx, hxv, hxb⟩ := presentedCause_spec hne (byteAt 3 st)
      rw [hjudged, judgeCarried_of_lt hlt]
      exact ⟨rfl, rfl, x, hx, hxv, hxb⟩
    · obtain ⟨hintact, hreason⟩ := evaluatedCause_spec (carriedTests k (carriedFigures inp st cls c))
      rw [hjudged, judgeCarried_of_le hle]
      exact ⟨rfl, rfl, hintact, hreason⟩

end Sys2Proof.Machine
end

section
/-!
PROOFS. A MOVE ALL slot step: the move of its slot's record and the settling of its walk (R121 to R123, R125, R126, R176,
R177).
-/
namespace Sys2Proof.Machine

/-! ### The end of a slot step -/

/-- The end of a slot step, its result discarded or not. -/
theorem exec_slot_ends {s : State} {a b : Byte} {i : SlotNo} {inp : StepInputs} {discarded : Bool} (hp : s.power = .present)
    (he : s.engine = some { work := .moveAllSlot a b i, inputs := inp, discarded := discarded }) :
    exec (.moveAllSlot .ends) s = .next (s.finishMoveAll a b i inp discarded) :=
  congrArg Host.Outcome.next (endStep_eq_finish (kind := StepWork.isMoveAll) hp he rfl)

/-- A slot step makes its slot's move, settles its walk when one is in flight, and frees the engine. -/
theorem finishMoveAll_eq (s : State) (a b : Byte) (i : SlotNo) (inp : StepInputs) :
    s.finishMoveAll a b i inp false =
      match s.moveAll with
      | some m => (moveAllSlotWork inp a b i s).1.freeEngine.settleWalk
          { m with count := m.count + (moveAllSlotWork inp a b i s).2.toNat } i
          (moveAllEnding inp a b i (m.count + (moveAllSlotWork inp a b i s).2.toNat))
      | none => (moveAllSlotWork inp a b i s).1.freeEngine := rfl

/-! ### The start checks -/

/-- The start checks pass when both fields name ACTIVE compartments, and different ones. -/
theorem moveAllMayStart_iff {inp : StepInputs} {a b : Byte} : moveAllMayStart inp a b = true
    ↔ ∃ ca cb : CompNo, namesActive inp a ca ∧ namesActive inp b cb ∧ ca ≠ cb := by
  unfold moveAllMayStart
  cases ha : activeField inp.comps a with
  | none =>
    simp only [Bool.false_eq_true, false_iff]
    rintro ⟨ca, cb, hca, -, -⟩
    exact activeField_none.mp ha ca hca
  | some ca =>
    cases hb : activeField inp.comps b with
    | none =>
      simp only [Bool.false_eq_true, false_iff]
      rintro ⟨_, cb, -, hcb, -⟩
      exact activeField_none.mp hb cb hcb
    | some cb =>
      simp only [bne_iff_ne]
      constructor
      · exact fun hne => ⟨ca, cb, activeField_some.mp ha, activeField_some.mp hb, hne⟩
      · rintro ⟨ca', cb', hca, hcb, hne⟩
        rw [activeField_some.mpr hca] at ha
        rw [activeField_some.mpr hcb] at hb
        cases ha
        cases hb
        exact hne

/-- A slot step that fails its walk's start checks: that of slot 0, which alone makes them. -/
def startFails (inp : StepInputs) (a b : Byte) (i : SlotNo) : Prop :=
  i.val = 0 ∧ ¬∃ ca cb : CompNo, namesActive inp a ca ∧ namesActive inp b cb ∧ ca ≠ cb

theorem startFails_iff {inp : StepInputs} {a b : Byte} {i : SlotNo} :
    startFails inp a b i ↔ i.val = 0 ∧ moveAllMayStart inp a b = false := by
  rw [startFails, ← moveAllMayStart_iff, Bool.not_eq_true]

/-- With both fields naming compartments and the destination ACTIVE, they fail by the source's state or by one name
twice. -/
theorem startFails_of_named {inp : StepInputs} {a b : Byte} {ca cb : CompNo} {i : SlotNo} (ha : a.toNat = ca.val + 1)
    (hb : namesActive inp b cb) :
    startFails inp a b i ↔ i.val = 0 ∧ (inp.comps[ca].active = false ∨ ca = cb) := by
  refine and_congr_right fun _ => ?_
  constructor
  · intro hno
    by_contra hpass
    rw [not_or, Bool.not_eq_false] at hpass
    exact hno ⟨ca, cb, ⟨ha, hpass.1⟩, hb, hpass.2⟩
  · rintro hfail ⟨ca', cb', ⟨ha', hactive⟩, ⟨hb', -⟩, hne⟩
    have hca : ca' = ca := Fin.ext (by omega)
    have hcb : cb' = cb := Fin.ext (by have := hb.1; omega)
    subst hca hcb
    rcases hfail with hoff | heq
    · rw [hactive] at hoff
      cases hoff
    · exact hne heq

/-! ### The move of the slot's record -/

/-- A failed start check examines nothing. -/
theorem moveAllSlotWork_of_fails {inp : StepInputs} {a b : Byte} {i : SlotNo} (s : State) (h : startFails inp a b i) :
    moveAllSlotWork inp a b i s = (s, false) := if_pos (startFails_iff.mp h)

/-- An ABOARD record of the source is moved. -/
theorem moveAllSlotWork_moves {inp : StepInputs} {a b : Byte} {i : SlotNo} {s : State} {cb : CompNo} {r : Record}
    {l : LiveFields} (h : ¬startFails inp a b i) (ha : a.toNat = r.comp.val + 1) (hb : namesActive inp b cb)
    (hr : s.slots[i] = some r) (hc : r.custody = .aboard l) :
    moveAllSlotWork inp a b i s = (s.moveRecord inp i r l cb, true) := by
  unfold moveAllSlotWork
  rw [if_neg (fun hf => h (startFails_iff.mpr hf))]
  simp only [hr, compField_some.mpr ha, activeField_some.mpr hb, hc, if_true]

/-- Anything else is passed over. -/
theorem moveAllSlotWork_passes {inp : StepInputs} {a b : Byte} {i : SlotNo} {s : State}
    (h : ¬∃ (ca cb : CompNo) (r : Record) (l : LiveFields), a.toNat = ca.val + 1 ∧ namesActive inp b cb
      ∧ s.slots[i] = some r ∧ r.custody = .aboard l ∧ r.comp = ca) :
    moveAllSlotWork inp a b i s = (s, false) := by
  unfold moveAllSlotWork
  split
  · rfl
  · split
    · rename_i r ca cb hr hca hcb
      split
      · rename_i l hc
        split
        · rename_i hcomp
          exact absurd ⟨ca, cb, r, l, compField_some.mp hca, activeField_some.mp hcb, hr, hc, hcomp⟩ h
        · rfl
      · rfl
      · rfl
    · rfl

/-! ### Settling the walk -/

section
variable {inp : StepInputs} {a b : Byte} {i : SlotNo} (count : Nat)

theorem moveAllEnding_of_fails (h : startFails inp a b i) :
    moveAllEnding inp a b i count = some (resultOf .badCompartment 0x19 [0]) := if_pos (startFails_iff.mp h)

theorem moveAllEnding_last (h : ¬startFails inp a b i) (hi : i.val = 127) :
    moveAllEnding inp a b i count = some (resultOf .ok 0x19 [BitVec.ofNat 8 count]) := by
  rw [moveAllEnding, if_neg (mt startFails_iff.mpr h), if_pos hi]
  rfl

theorem moveAllEnding_between (h : ¬startFails inp a b i) (hi : i.val ≠ 127) : moveAllEnding inp a b i count = none := by
  rw [moveAllEnding, if_neg (mt startFails_iff.mpr h), if_neg hi]

end

theorem nextSlot_eq {i j : SlotNo} (h : j.val = i.val + 1) : nextSlot i = j := by
  rw [nextSlot, dif_pos (by omega)]
  exact Fin.ext h.symm

section
variable {s : State} {m : MoveAllRecord} {i : SlotNo} {r : Result} {n : Nat}

theorem settleWalk_free_ended (h : m.hold = .free) :
    s.settleWalk { m with count := n } i (some r) = s.endWalk r := by
  obtain ⟨source, dest, next, count, hold⟩ := m
  cases h
  rfl

theorem settleWalk_held_ended (h : m.hold = .held) : s.settleWalk { m with count := n } i (some r)
    = s.continueWalk { m with count := n, hold := .ended r } := by
  obtain ⟨source, dest, next, count, hold⟩ := m
  cases h
  rfl

theorem settleWalk_goesOn (h : m.hold = .free ∨ m.hold = .held) : s.settleWalk { m with count := n } i none
    = s.continueWalk { m with count := n, next := nextSlot i } := by
  obtain ⟨source, dest, next, count, hold⟩ := m
  rcases h with h | h <;> cases h <;> rfl

theorem settleWalk_stopping {e : Option Result} (h : m.hold = .stopping) : s.settleWalk { m with count := n } i e
    = s.endWalk (resultOf .cancelled 0x19 [BitVec.ofNat 8 n]) := by
  obtain ⟨source, dest, next, count, hold⟩ := m
  cases h
  rfl

end

/-- Two states that differ in the Unit Port's phase and the move-all record at most. -/
def SettledFrom (s t : State) : Prop :=
  ∃ (ph : PortPhase) (m : Option MoveAllRecord), t = { s with moveAll := m, unitPort := { s.unitPort with phase := ph } }

theorem settleWalk_settledFrom (s : State) (m : MoveAllRecord) (i : SlotNo) (e : Option Result) :
    SettledFrom s (s.settleWalk m i e) := by
  unfold State.settleWalk
  split <;> exact ⟨_, _, rfl⟩

theorem SettledFrom.refl (s : State) : SettledFrom s s := ⟨s.unitPort.phase, s.moveAll, rfl⟩

/-- The end of a slot step changes what its move changes, and settles the walk. -/
theorem finishMoveAll_settledFrom (s : State) (a b : Byte) (i : SlotNo) (inp : StepInputs) :
    SettledFrom (moveAllSlotWork inp a b i s).1.freeEngine (s.finishMoveAll a b i inp false) := by
  rw [finishMoveAll_eq]
  split
  · exact settleWalk_settledFrom _ _ _ _
  · exact SettledFrom.refl _

/-- A slot step's work changes slots and occupancies at most. -/
theorem moveAllSlotWork_table (inp : StepInputs) (a b : Byte) (i : SlotNo) (s : State) :
    ∃ (slots : Vector (Option Record) 128) (occupancy : Vector Nat 4),
      (moveAllSlotWork inp a b i s).1 = { s with slots := slots, occupancy := occupancy } := by
  unfold moveAllSlotWork
  split
  · exact ⟨_, _, rfl⟩
  · split
    · split
      · split <;> exact ⟨_, _, rfl⟩
      · exact ⟨_, _, rfl⟩
      · exact ⟨_, _, rfl⟩
    · exact ⟨_, _, rfl⟩

/-- Nor does it look at the step in progress. -/
theorem moveAllSlotWork_withEngine (inp : StepInputs) (a b : Byte) (i : SlotNo) (s : State) (e : Option StepInProgress) :
    (moveAllSlotWork inp a b i { s with engine := e }).1.freeEngine = (moveAllSlotWork inp a b i s).1.freeEngine := by
  unfold moveAllSlotWork
  split
  · rfl
  · cases s.slots[i] with
    | none => rfl
    | some r =>
      cases compField a with
      | none => rfl
      | some ca =>
        cases activeField inp.comps b with
        | none => rfl
        | some cb =>
          dsimp only
          cases r.custody with
          | aboard l =>
            dsimp only
            split <;> rfl
          | offered | closed => rfl

/-! ### The obligation -/

theorem moveAllStepMovesOneRecord : MoveAllStepMovesOneRecord := by
  intro a b ca cb i inp s h ha hb
  obtain ⟨ph, m, ht⟩ := finishMoveAll_settledFrom s a b i inp
  obtain ⟨slots, occupancy, hwork⟩ := moveAllSlotWork_table inp a b i s
  have hslots : (s.finishMoveAll a b i inp false).slots = (moveAllSlotWork inp a b i s).1.slots := by rw [ht]; rfl
  have hocc : (s.finishMoveAll a b i inp false).occupancy = (moveAllSlotWork inp a b i s).1.occupancy := by rw [ht]; rfl
  have hfails := startFails_of_named (i := i) ha hb
  refine ⟨_, exec_slot_ends h.1 h.2, ?_⟩
  rw [hslots, hocc]
  refine ⟨by rw [ht]; rfl, ?_, ?_, ?_, ?_, ?_, ?_, ?_, ?_, ?_, ?_⟩
  iterate 9 (rw [ht, hwork]; rfl)
  split
  · next h0 =>
    rw [moveAllSlotWork_of_fails s (hfails.mpr h0)]
    exact ⟨rfl, rfl⟩
  · next h0 =>
    constructor
    · rintro r l hr hc rfl
      rw [moveAllSlotWork_moves (mt hfails.mp h0) ha hb hr hc]
      refine ⟨?_, fun hne => ?_⟩
      · rw [← moveTo_aboard hc]
        rfl
      · rw [moveRecord_eq hc hne.symm]
    · intro hother
      rw [moveAllSlotWork_passes]
      · exact ⟨rfl, rfl⟩
      · rintro ⟨ca', cb', r, l, ha', -, hr, hc, rfl⟩
        exact hother r l hr hc (Fin.ext (by omega))

theorem moveAllStepSettlesTheWalk : MoveAllStepSettlesTheWalk := by
  intro a b i inp m s h hm fails moves
  have hsettled : s.finishMoveAll a b i inp false = (moveAllSlotWork inp a b i s).1.freeEngine.settleWalk
      { m with count := m.count + (moveAllSlotWork inp a b i s).2.toNat } i
      (moveAllEnding inp a b i (m.count + (moveAllSlotWork inp a b i s).2.toNat)) := by rw [finishMoveAll_eq, hm]
  refine ⟨_, m.count + (moveAllSlotWork inp a b i s).2.toNat, exec_slot_ends h.1 h.2, ?_, ?_, ?_, ?_⟩
  · obtain ⟨ph, m', ht⟩ := finishMoveAll_settledFrom s a b i inp
    rw [ht]
    rfl
  · rintro ⟨hpass, ca, cb, r, l, ha, hb, hr, hc, rfl⟩
    rw [moveAllSlotWork_moves hpass ha hb hr hc]
    rfl
  · intro hno
    have hwork : moveAllSlotWork inp a b i s = (s, false) := by
      by_cases hfails : fails
      · exact moveAllSlotWork_of_fails s hfails
      · exact moveAllSlotWork_passes fun hmoves => hno ⟨hfails, hmoves⟩
    obtain ⟨ph, m', ht⟩ := finishMoveAll_settledFrom s a b i inp
    rw [ht, hwork]
    exact ⟨rfl, rfl, rfl⟩
  · rw [hsettled]
    generalize moveAllSlotWork inp a b i s = done
    refine ⟨fun hold hf => ?_, fun hold hf h127 => ?_, fun hold hf => ?_, fun hold hf h127 => ?_,
      fun hold hf j hj => ?_, fun hold => ?_⟩
    · rw [moveAllEnding_of_fails _ hf, settleWalk_free_ended hold]
      exact ⟨rfl, rfl⟩
    · rw [moveAllEnding_last _ hf h127, settleWalk_free_ended hold]
      exact ⟨rfl, rfl⟩
    · rw [moveAllEnding_of_fails _ hf, settleWalk_held_ended hold]
      exact ⟨rfl, rfl⟩
    · rw [moveAllEnding_last _ hf h127, settleWalk_held_ended hold]
      exact ⟨rfl, rfl⟩
    · rw [moveAllEnding_between _ hf (by omega), settleWalk_goesOn hold, nextSlot_eq hj]
      exact ⟨rfl, rfl⟩
    · rw [settleWalk_stopping hold]
      exact ⟨rfl, rfl⟩

theorem discardedSlotStepMakesItsMoveAlone : DiscardedSlotStepMakesItsMoveAlone := by
  intro a b i inp s t h ht
  rw [exec_slot_ends h.1 h.2] at ht
  cases ht
  obtain ⟨ph, m, hsettled⟩ := finishMoveAll_settledFrom s a b i inp
  obtain ⟨slots, occupancy, hwork⟩ := moveAllSlotWork_table inp a b i s
  have hfree : ({ s with engine := some { work := .moveAllSlot a b i, inputs := inp, discarded := true } } :
      State).finishMoveAll a b i inp true = (moveAllSlotWork inp a b i s).1.freeEngine :=
    moveAllSlotWork_withEngine inp a b i s _
  have hends := exec_slot_ends
    (s := { s with engine := some { work := .moveAllSlot a b i, inputs := inp, discarded := true } }) h.1 rfl
  rw [hends, hfree, hsettled, hwork]
  rfl

/-- Settles O31, by its three parts. -/
theorem moveAllStepByItsRules : Obligations.MoveAllStepByItsRules :=
  ⟨moveAllStepMovesOneRecord, moveAllStepSettlesTheWalk, discardedSlotStepMakesItsMoveAlone⟩

end Sys2Proof.Machine
end

section
/-!
PROOFS. The check word, the record summary, and the statement in its two forms (R15, R102, R107, R108, R139 to R142, R181,
R182).
-/
namespace Sys2Proof.Machine

/-! ### The check word -/

theorem carryAdd_le {a w : Nat} (ha : a ≤ 65535) (hw : w ≤ 65535) : carryAdd a w ≤ 65535 := by
  rw [carryAdd_eq]
  split <;> omega

/-- A folded sum of words stays a word. -/
theorem foldl_carryAdd_le {words : List Nat} {a : Nat} (ha : a ≤ 65535) (hwords : ∀ w ∈ words, w ≤ 65535) :
    words.foldl carryAdd a ≤ 65535 := by
  induction words generalizing a with
  | nil => exact ha
  | cons x xs ih =>
    exact ih (carryAdd_le ha (hwords x List.mem_cons_self)) fun w hw => hwords w (List.mem_cons_of_mem x hw)

/-- The carry brought back, the sum agrees with the plain one modulo 65,535. -/
theorem foldl_carryAdd_mod (words : List Nat) (a : Nat) : words.foldl carryAdd a % 65535 = (a + words.sum) % 65535 := by
  induction words generalizing a with
  | nil => rfl
  | cons x xs ih =>
    rw [List.foldl_cons, ih, carryAdd_eq, List.sum_cons]
    split <;> omega

/-- Two lists of words of one check word agree in their sums modulo 65,535. -/
theorem sum_mod_of_checkWordOf_eq {xs ys : List Nat} (hxs : ∀ w ∈ xs, w ≤ 65535) (hys : ∀ w ∈ ys, w ≤ 65535)
    (h : checkWordOf xs = checkWordOf ys) : xs.sum % 65535 = ys.sum % 65535 := by
  have hx := foldl_carryAdd_le (Nat.zero_le _) hxs
  have hy := foldl_carryAdd_le (Nat.zero_le _) hys
  have hfold : xs.foldl carryAdd 0 = ys.foldl carryAdd 0 := by
    unfold checkWordOf at h
    omega
  have hx' := foldl_carryAdd_mod xs 0
  have hy' := foldl_carryAdd_mod ys 0
  rw [Nat.zero_add] at hx' hy'
  rw [← hx', ← hy', hfold]

/-- Settles O37. -/
theorem checkWordCompletesTheSum : Obligations.CheckWordCompletesTheSum := by
  intro words hwords
  refine ⟨?_, checkWordOf_le words, ?_, ?_⟩
  · have hsum := foldl_carryAdd_le (Nat.zero_le _) hwords
    rw [List.foldl_append, List.foldl_cons, List.foldl_nil, carryAdd_eq, checkWordOf]
    split <;> omega
  · have hmod := foldl_carryAdd_mod words 0
    rwa [Nat.zero_add] at hmod
  · rintro pre post w v rfl hv hne hup hdown heq
    have hw := hwords w (by simp)
    have hchanged : ∀ x ∈ pre ++ v :: post, x ≤ 65535 := by
      intro x hx
      rcases List.mem_append.mp hx with hx | hx
      · exact hwords x (List.mem_append_left _ hx)
      · rcases List.mem_cons.mp hx with rfl | hx
        · exact hv
        · exact hwords x (List.mem_append_right _ (List.mem_cons_of_mem _ hx))
    have hmod := sum_mod_of_checkWordOf_eq hchanged hwords heq
    simp only [List.sum_append, List.sum_cons] at hmod
    omega

/-! ### Numbers read from their bytes -/

/-- A number at an offset of some bytes that hold it there. -/
theorem natAt_of_beBytes {o k n : Nat} {bs : List Byte} (h : natAt o k bs = beNat (beBytes k n)) (hn : n < 256 ^ k) :
    natAt o k bs = n := by
  rw [h, beNat_beBytes_of_lt hn]

/-- A word at an offset of some bytes that hold it there. -/
theorem ofNat_natAt {o k w : Nat} {bs : List Byte} {x : BitVec w} (h : natAt o k bs = beNat (beBytes k x.toNat))
    (hw : 2 ^ w = 256 ^ k) : BitVec.ofNat w (natAt o k bs) = x := by
  rw [natAt_of_beBytes h (hw ▸ x.isLt), BitVec.ofNat_toNat, BitVec.setWidth_eq]

/-- A temperature, or its absence, at an offset of some bytes that hold it there. -/
theorem intAt_of_tempBytes {o : Nat} {bs : List Byte} {t : Option Int} (h : natAt o 2 bs = beNat (tempBytes t))
    (ht : OptTempRight t) : intAt o bs = t.getD (-32768) := by
  cases t with
  | none => exact intAt_of_natAt h (by decide) (by decide)
  | some x =>
    obtain ⟨hlo, hhi⟩ := ht x rfl
    have hlo : (-400 : Int) ≤ x := hlo
    have hhi : x ≤ 500 := hhi
    exact intAt_of_natAt h (by show (-32768 : Int) ≤ x; omega) (by show x ≤ 32767; omega)

/-! ### The record summary -/

/-- The seconds to the deadline of a record, whole in the two bytes they are sent on while the deadline is reached or
near. -/
theorem secondsTo_summary {now d : RouteTime} (h : (now - d).toNat < 2147483648 ∨ (d - now).toNat ≤ 3600) :
    beNat (beBytes 2 (secondsTo now d)) = if (now - d).toNat < 2147483648 then 0 else (d - now).toNat := by
  rw [secondsTo_eq]
  split
  · rfl
  · next hfar => exact beNat_beBytes_of_lt (by have := h.resolve_left hfar; omega)

/-- Settles O24, field by field. -/
theorem summaryHoldsTheRecord : Obligations.SummaryHoldsTheRecord := by
  rintro now i r ⟨hwarm, hcold, -, hblind, -⟩
  refine ⟨rfl, natByte_toNat (by omega), ?_, natByte_toNat (by omega), ?_, rfl, rfl,
    ofNat_natAt (k := 12) rfl rfl, natAt_of_beBytes (k := 4) rfl (by omega), natAt_of_beBytes (k := 4) rfl (by omega),
    natAt_of_beBytes (k := 4) rfl (by omega), fun l d hc hd => ?_, fun hno => ?_⟩
  · show r.custody.byte.toNat = _
    cases r.custody <;> rfl
  · exact natByte_toNat (by omega)
  · have hseconds : natAt 30 2 (summaryBytes now i r) = beNat (beBytes 2 (secondsToDeadline now r.custody)) := rfl
    rw [hseconds, hc]
    exact secondsTo_summary hd
  · have hseconds : natAt 30 2 (summaryBytes now i r) = beNat (beBytes 2 (secondsToDeadline now r.custody)) := rfl
    rw [hseconds]
    cases hc : r.custody with
    | offered l d => exact absurd hc (hno l d)
    | aboard | closed => exact beNat_beBytes_of_lt (k := 2) (n := 0) (by decide)

/-! ### The layout of a statement (R182) -/

theorem slice_add (o m n : Nat) (bs : List Byte) : slice o (m + n) bs = slice o m bs ++ slice (o + m) n bs := by
  rw [slice, List.take_add, List.drop_drop]
  rfl

theorem byteAt_eq_slice (o : Nat) (bs : List Byte) : byteAt o bs = (slice o 1 bs).getD 0 0 := by
  simp [byteAt, slice, List.getElem?_drop]

/-- A part of some bytes given as the parts that they consist of. -/
theorem slice_flatten {parts : List (List Byte)} (j : Nat) {o k : Nat} {x : List Byte} (hx : parts[j]? = some x)
    (ho : ((parts.take j).map List.length).sum = o) (hk : x.length = k) : slice o k parts.flatten = x := by
  obtain ⟨hj, hget⟩ := List.getElem?_eq_some_iff.mp hx
  have hsplit : parts.flatten = (parts.take j).flatten ++ (x ++ (parts.drop (j + 1)).flatten) := by
    rw [← List.flatten_cons, ← hget, ← List.flatten_append, List.getElem_cons_drop, List.take_append_drop]
  rw [← List.length_flatten] at ho
  rw [slice, hsplit, ← ho, List.drop_left, ← hk, List.take_left]

/-- The fields of a statement in their order, the check word last. -/
def statementParts (r : Record) (f : StatementForm) (check : Nat) : List (List Byte) :=
  [[1], [statementFlags f.provisional (r.cause == .carried)], [r.verdict.byte], [r.statementCause.byte], idBytes r.id,
    beBytes 2 f.closingUnit.toNat, beBytes 2 (r.carriedFrom.getD 0).toNat, beBytes 4 f.receiver.toNat,
    [natByte r.cls.val], [compByte r.comp], intBytes f.limits.upper, intBytes f.limits.hard,
    tempBytes (f.limits.low.map (·.lower)), tempBytes (f.limits.low.map (·.floor)), beBytes 4 f.limits.warmBudget,
    beBytes 4 f.limits.coldBudget, beBytes 4 r.warm, beBytes 4 r.cold, beBytes 4 r.excursion, beBytes 4 r.blind,
    tempBytes r.peakHigh, tempBytes r.peakLow, beBytes 2 f.door, [natByte r.lapses], [natByte f.period],
    beBytes 4 r.admittedAt.toNat, beBytes 4 f.closeTime.toNat, beBytes 2 check]

/-- The lengths of those fields. -/
def statementLengths : List Nat := [1, 1, 1, 1, 12, 2, 2, 4, 1, 1, 2, 2, 2, 2, 4, 4, 4, 4, 4, 4, 2, 2, 2, 1, 1, 4, 4, 2]

theorem statementParts_lengths (r : Record) (f : StatementForm) (check : Nat) :
    (statementParts r f check).map List.length = statementLengths := rfl

theorem statementParts_flatten (r : Record) (f : StatementForm) (check : Nat) :
    (statementParts r f check).flatten = statementBody r f ++ beBytes 2 check := by
  simp only [statementParts, statementBody, limitBytes, List.flatten_cons, List.flatten_nil, List.append_nil,
    List.cons_append, List.nil_append, List.append_assoc]

section
variable {r : Record} {f : StatementForm} {check o k : Nat}

/-- The field of a statement at its offset, by its place among the fields. -/
theorem statement_part (j : Nat) {x : List Byte} (hx : (statementParts r f check)[j]? = some x)
    (ho : (statementLengths.take j).sum = o) (hk : x.length = k) :
    slice o k (statementBody r f ++ beBytes 2 check) = x := by
  rw [← statementParts_flatten]
  refine slice_flatten j hx ?_ hk
  rw [List.map_take, statementParts_lengths, ho]

/-- The byte of a one-byte field. -/
theorem statement_byte (j : Nat) {b : Byte} (hx : (statementParts r f check)[j]? = some [b])
    (ho : (statementLengths.take j).sum = o) :
    byteAt o (statementBody r f ++ beBytes 2 check) = b := by
  have hslice : slice o 1 (statementBody r f ++ beBytes 2 check) = [b] := statement_part j hx ho rfl
  rw [byteAt_eq_slice, hslice]
  rfl

/-- The number of a field. -/
theorem statement_nat (j : Nat) {n : Nat} (hx : (statementParts r f check)[j]? = some (beBytes k n))
    (ho : (statementLengths.take j).sum = o) (hn : n < 256 ^ k) :
    natAt o k (statementBody r f ++ beBytes 2 check) = n :=
  natAt_of_beBytes (congrArg beNat (statement_part j hx ho (beBytes_length k n))) hn

/-- The word of a field. -/
theorem statement_word (j : Nat) {w : Nat} {x : BitVec w} (hx : (statementParts r f check)[j]? = some (beBytes k x.toNat))
    (ho : (statementLengths.take j).sum = o) (hw : 2 ^ w = 256 ^ k) :
    BitVec.ofNat w (natAt o k (statementBody r f ++ beBytes 2 check)) = x :=
  ofNat_natAt (congrArg beNat (statement_part j hx ho (beBytes_length k _))) hw

end

theorem statement_length (r : Record) (f : StatementForm) (check : Nat) :
    (statementBody r f ++ beBytes 2 check).length = 76 := by
  rw [List.length_append, statementBody_length, beBytes_length]

/-! ### The fields of a statement -/

theorem presentedVerdict_byte (v : Verdict) : presentedVerdict v.byte = v := by
  cases v <;> rfl

/-- A cause field that names a cause of the verdict is read as that cause. -/
theorem presentedCause_byte {v : Verdict} {x : ReasonCause} (h : x.verdict = v) : presentedCause v x.byte = some x := by
  rw [presentedCause, reasonOfByte_byte, Option.filter_some, if_pos (beq_iff_eq.mpr h)]
  rfl

/-- The flags byte of a statement has a bit for each of its two marks. -/
theorem statementFlags_bits (provisional carried : Bool) :
    (statementFlags provisional carried).getLsbD 0 = provisional
      ∧ (statementFlags provisional carried).getLsbD 1 = carried := by
  cases provisional <;> cases carried <;> decide

/-- The cause a statement carries, of a record whose cause agrees with its verdict: the reason cause that it has, carried
or its own, and none of its own with none. -/
theorem statementCause_spec {r : Record} (h : CauseAgrees r) :
    (∀ x : ReasonCause, r.cause = .reason x ∨ r.carriedCause = some x → r.statementCause = .reason x ∧ x.verdict = r.verdict)
      ∧ (r.cause = .nothing → r.statementCause = .nothing) := by
  unfold CauseAgrees at h
  unfold Record.statementCause
  cases hc : r.cause with
  | nothing =>
    rw [hc] at h
    obtain ⟨-, hnone⟩ := h
    refine ⟨fun x hx => ?_, fun _ => rfl⟩
    rw [hnone] at hx
    rcases hx with hx | hx <;> cases hx
  | reason c =>
    rw [hc] at h
    obtain ⟨hv, hnone⟩ := h
    refine ⟨fun x hx => ?_, nofun⟩
    rw [hnone] at hx
    rcases hx with hx | hx <;> cases hx
    exact ⟨rfl, hv⟩
  | carried =>
    rw [hc] at h
    obtain ⟨c, hsome, hv⟩ := h
    refine ⟨fun x hx => ?_, nofun⟩
    rw [hsome] at hx ⊢
    rcases hx with hx | hx <;> cases hx
    exact ⟨rfl, hv⟩

/-- A peak in range is taken as it was sent, and an absent one as absent. -/
theorem presentedPeak_getD {t : Option Int} (ht : OptTempRight t) : presentedPeak (t.getD (-32768)) = t := by
  rw [presentedPeak_eq]
  cases t with
  | none => rfl
  | some x =>
    obtain ⟨hlo, hhi⟩ := ht x rfl
    have hlo : (-400 : Int) ≤ x := hlo
    have hhi : x ≤ 500 := hhi
    rw [Option.getD_some, if_neg (by omega), if_neg (by omega), if_neg (by omega)]

/-- The limits of a statement read back from where it holds them, L and F as the marker where the class has none. -/
theorem limits_read {b : List Byte} {k : LimitsCopy} (h : LimitsRight k)
    (hupper : natAt 26 2 b = beNat (intBytes k.upper)) (hhard : natAt 28 2 b = beNat (intBytes k.hard))
    (hlower : natAt 30 2 b = beNat (tempBytes (k.low.map (·.lower))))
    (hfloor : natAt 32 2 b = beNat (tempBytes (k.low.map (·.floor)))) :
    intAt 26 b = k.upper ∧ intAt 28 b = k.hard
      ∧ (∀ l : LowLimits, k.low = some l → intAt 30 b = l.lower ∧ intAt 32 b = l.floor)
      ∧ (k.low = none → intAt 30 b = -32768 ∧ intAt 32 b = -32768) := by
  obtain ⟨hu, hh, hlow, -⟩ := h
  have hopt : ∀ t : Int, TempRight t → OptTempRight (some t) := by
    rintro t ht x ⟨⟩
    exact ht
  refine ⟨intAt_of_tempBytes (t := some k.upper) hupper (hopt _ hu), intAt_of_tempBytes (t := some k.hard) hhard (hopt _ hh),
    fun l hl => ?_, fun hnone => ?_⟩
  · rw [hl] at hlower hfloor
    obtain ⟨hll, hlf⟩ := hlow l hl
    exact ⟨intAt_of_tempBytes hlower (hopt _ hll), intAt_of_tempBytes hfloor (hopt _ hlf)⟩
  · rw [hnone] at hlower hfloor
    exact ⟨intAt_of_tempBytes hlower nofun, intAt_of_tempBytes hfloor nofun⟩

/-- Settles O36, field by field. -/
theorem closedStatementReadsBack : Obligations.ClosedStatementReadsBack := by
  rintro r f ⟨hwarm, hcold, hexc, hblind, hlapses, -, hdoor⟩ hcause hhigh hlow hc hperiod
  have hdoor : f.doorFinal ≤ 65535 := hdoor f hc
  obtain ⟨hreason, hnothing⟩ := statementCause_spec hcause
  obtain ⟨hprov, hcarried⟩ := statementFlags_bits false (r.cause == .carried)
  intro b
  have hflags : byteAt 1 b = statementFlags false (r.cause == .carried) := statement_byte 1 rfl rfl
  have hverdict : byteAt 2 b = r.verdict.byte := statement_byte 2 rfl rfl
  have hcause3 : byteAt 3 b = r.statementCause.byte := statement_byte 3 rfl rfl
  have hcls : byteAt 24 b = natByte r.cls.val := statement_byte 8 rfl rfl
  have hcomp : byteAt 25 b = natByte (r.comp.val + 1) := statement_byte 9 rfl rfl
  have hlapses64 : byteAt 64 b = natByte r.lapses := statement_byte 23 rfl rfl
  have hperiod65 : byteAt 65 b = natByte f.scanPeriod := statement_byte 24 rfl rfl
  have hpeakHigh : natAt 58 2 b = beNat (tempBytes r.peakHigh) := congrArg beNat (statement_part 20 rfl rfl rfl)
  have hpeakLow : natAt 60 2 b = beNat (tempBytes r.peakLow) := congrArg beNat (statement_part 21 rfl rfl rfl)
  refine ⟨statement_length _ _ _, statement_byte 0 rfl rfl, hflags ▸ hprov, ?_, hverdict,
    hverdict ▸ presentedVerdict_byte _, fun x hx => ?_, fun hno => ?_, statement_word 4 rfl rfl rfl,
    statement_word 5 rfl rfl rfl, statement_word 6 rfl rfl rfl, statement_word 7 rfl rfl rfl,
    hcls ▸ natByte_toNat (by omega), hcomp ▸ natByte_toNat (by omega), statement_nat 16 rfl rfl (by omega),
    statement_nat 17 rfl rfl (by omega), statement_nat 18 rfl rfl (by omega), statement_nat 19 rfl rfl (by omega), ?_, ?_,
    fun hlimits => ?_, statement_nat 22 rfl rfl (by omega), hlapses64 ▸ natByte_toNat (by omega),
    hperiod65 ▸ natByte_toNat (by omega), statement_word 25 rfl rfl rfl, statement_word 26 rfl rfl rfl,
    statement_nat 27 rfl rfl f.checkWord.isLt⟩
  · rw [hflags, hcarried, beq_iff_eq]
  · obtain ⟨hx', hv⟩ := hreason x hx
    rw [hcause3, hx']
    exact ⟨rfl, presentedCause_byte hv⟩
  · rw [hcause3, hnothing hno]
    rfl
  · rw [intAt_of_tempBytes hpeakHigh hhigh, presentedPeak_getD hhigh]
  · rw [intAt_of_tempBytes hpeakLow hlow, presentedPeak_getD hlow]
  · obtain ⟨hupper, hhard, hsome, hnone⟩ := limits_read (b := b) hlimits
      (congrArg beNat (statement_part 10 rfl rfl rfl)) (congrArg beNat (statement_part 11 rfl rfl rfl))
      (congrArg beNat (statement_part 12 rfl rfl rfl)) (congrArg beNat (statement_part 13 rfl rfl rfl))
    obtain ⟨-, -, -, hwarmBudget, hcoldBudget⟩ := hlimits
    exact ⟨hupper, hhard, hsome, hnone, statement_nat 14 rfl rfl (by omega), statement_nat 15 rfl rfl (by omega)⟩

/-! ### READ STATEMENT -/

/-- READ STATEMENT of a CLOSED record answers its statement and marks it read. -/
theorem readStatementWork_closed {s : State} {inp : StepInputs} {id : ConsignmentId} {i : SlotNo} {r : Record}
    {f : ClosedFields} (hfound : s.findRecord id = some (i, r)) (hc : r.custody = .closed f) :
    readStatementWork inp id s =
      ({ s with slots := put s.slots i (some { r with custody := .closed { f with statementRead := true } }) },
        resultOf .ok 0x23 (closedStatement r f)) := by
  simp only [readStatementWork, hfound, hc]
  rfl

/-- READ STATEMENT of a live record answers its provisional statement and changes nothing. -/
theorem readStatementWork_live {s : State} {inp : StepInputs} {id : ConsignmentId} {i : SlotNo} {r : Record}
    {l : LiveFields} {k : ClassLimits} (hfound : s.findRecord id = some (i, r)) (hl : r.live = some l)
    (hk : s.classes[r.cls] = some k) :
    readStatementWork inp id s =
      (s, resultOf .ok 0x23 (provisionalStatement r k (doorFigure inp r l) inp.period)) := by
  have hanswer : s.provisionalAnswer inp r l
      = resultOf .ok 0x23 (provisionalStatement r k (doorFigure inp r l) inp.period) := by
    simp only [State.provisionalAnswer, hk]
    rfl
  rcases live_some hl with hc | ⟨d, hc⟩ <;> simp only [readStatementWork, hfound, hc, hanswer]

/-- A statement with its provisional flag set is accepted by no part. -/
theorem not_verifies_of_provisional {b : List Byte} (h : (byteAt 1 b).getLsbD 0 = true) : verifies b = false := by
  rw [verifies, h, Bool.not_true, Bool.and_false, Bool.false_and, Bool.false_and]

/-- What a provisional statement holds. -/
theorem provisionalStatement_reads (r : Record) (k : ClassLimits) {door : Nat} (hdoor : door ≤ 65535) (period : Nat) :
    let b := provisionalStatement r k door period
    b.length = 76 ∧ (byteAt 1 b).getLsbD 0 = true ∧ verifies b = false
      ∧ natAt 16 2 b = 0 ∧ natAt 20 4 b = 0 ∧ natAt 70 4 b = 0 ∧ natAt 74 2 b = 0
      ∧ natAt 62 2 b = door ∧ slice 26 8 b = limitBytes k.upper k.hard k.low
      ∧ slice 34 8 b = beBytes 4 k.warmBudget ++ beBytes 4 k.coldBudget
      ∧ byteAt 65 b = BitVec.ofNat 8 period
      ∧ byteAt 0 b = 1 ∧ ((byteAt 1 b).getLsbD 1 = true ↔ r.cause = .carried) ∧ byteAt 2 b = r.verdict.byte
      ∧ byteAt 3 b = r.statementCause.byte ∧ BitVec.ofNat 96 (natAt 4 12 b) = r.id
      ∧ BitVec.ofNat 16 (natAt 18 2 b) = r.carriedFrom.getD 0 ∧ byteAt 24 b = BitVec.ofNat 8 r.cls.val
      ∧ byteAt 25 b = BitVec.ofNat 8 (r.comp.val + 1)
      ∧ slice 42 16 b = beBytes 4 r.warm ++ beBytes 4 r.cold ++ beBytes 4 r.excursion ++ beBytes 4 r.blind
      ∧ slice 58 4 b = intBytes (r.peakHigh.getD (-32768)) ++ intBytes (r.peakLow.getD (-32768))
      ∧ byteAt 64 b = BitVec.ofNat 8 r.lapses ∧ BitVec.ofNat 32 (natAt 66 4 b) = r.admittedAt := by
  intro b
  have hflags : byteAt 1 b = statementFlags true (r.cause == .carried) := statement_byte 1 rfl rfl
  obtain ⟨hprov, hcarried⟩ := statementFlags_bits true (r.cause == .carried)
  have hprov : (byteAt 1 b).getLsbD 0 = true := hflags ▸ hprov
  refine ⟨statement_length _ _ _, hprov, not_verifies_of_provisional hprov, statement_nat 5 rfl rfl (by decide),
    statement_nat 7 rfl rfl (by decide), statement_nat 26 rfl rfl (by decide), statement_nat 27 rfl rfl (by decide),
    statement_nat 22 rfl rfl (by omega), ?_, ?_, statement_byte 24 rfl rfl, statement_byte 0 rfl rfl, ?_,
    statement_byte 2 rfl rfl, statement_byte 3 rfl rfl, statement_word 4 rfl rfl rfl, statement_word 6 rfl rfl rfl,
    statement_byte 8 rfl rfl, statement_byte 9 rfl rfl, ?_, ?_, statement_byte 23 rfl rfl, statement_word 25 rfl rfl rfl⟩
  · have hupper : slice 26 2 b = intBytes k.upper := statement_part 10 rfl rfl rfl
    have hhard : slice 28 2 b = intBytes k.hard := statement_part 11 rfl rfl rfl
    have hlower : slice 30 2 b = tempBytes (k.low.map (·.lower)) := statement_part 12 rfl rfl rfl
    have hfloor : slice 32 2 b = tempBytes (k.low.map (·.floor)) := statement_part 13 rfl rfl rfl
    rw [slice_add 26 6 2, slice_add 26 4 2, slice_add 26 2 2, hupper, hhard, hlower, hfloor]
    rfl
  · have hwarm : slice 34 4 b = beBytes 4 k.warmBudget := statement_part 14 rfl rfl rfl
    have hcold : slice 38 4 b = beBytes 4 k.coldBudget := statement_part 15 rfl rfl rfl
    rw [slice_add 34 4 4, hwarm, hcold]
  · rw [hflags, hcarried, beq_iff_eq]
  · have hwarm : slice 42 4 b = beBytes 4 r.warm := statement_part 16 rfl rfl rfl
    have hcold : slice 46 4 b = beBytes 4 r.cold := statement_part 17 rfl rfl rfl
    have hexc : slice 50 4 b = beBytes 4 r.excursion := statement_part 18 rfl rfl rfl
    have hblind : slice 54 4 b = beBytes 4 r.blind := statement_part 19 rfl rfl rfl
    rw [slice_add 42 12 4, slice_add 42 8 4, slice_add 42 4 4, hwarm, hcold, hexc, hblind]
  · have hhigh : slice 58 2 b = tempBytes r.peakHigh := statement_part 20 rfl rfl rfl
    have hlow : slice 60 2 b = tempBytes r.peakLow := statement_part 21 rfl rfl rfl
    rw [slice_add 58 2 2, hhigh, hlow]
    rfl

/-- Settles O38. -/
theorem readStatementMarksAClosedRecord : Obligations.ReadStatementMarksAClosedRecord := by
  intro p id inp i r s h hids hat
  have hfound := findRecord_idAt hids hat
  have hrow : stepRow p (.readStatement id) = some (.readStatementStep p) := by cases p <;> rfl
  refine ⟨fun f hc => exec_ends_of_work h hrow (readStatementWork_closed hfound hc), fun l k hl hk => ?_⟩
  obtain ⟨hlen, hprov, hno, hunit, hreceiver, hclose, hcheck, hdoor, hlimits, hbudgets, hperiod, hformat, hcarried, hv, hcause,
    hid, hfrom, hcls, hcomp, hsums, hpeaks, hlapses, hadmitted⟩ :=
    provisionalStatement_reads r k (show doorFigure inp r l ≤ 65535 from Nat.min_le_left _ _) inp.period
  refine ⟨_, exec_ends_of_work h hrow (readStatementWork_live hfound hl hk), hlen, hprov, hno, hunit, hreceiver, hclose,
    hcheck, hdoor, hlimits, hbudgets, hperiod, hformat, hcarried, hv, fun x hx => ?_, fun hnone => ?_, hid, hfrom, hcls,
    hcomp, hsums, hpeaks, hlapses, hadmitted⟩
  · rw [hcause, Record.statementCause]
    rcases hx with hx | ⟨hx, hsome⟩
    · rw [hx]
      rfl
    · rw [hx, hsome]
      rfl
  · rw [hcause, Record.statementCause, hnone]
    rfl

end Sys2Proof.Machine
end

section
/-!
PROOFS. Doors and scans: the door lines and the door-long deadline, the schedule of the scans and the poll (R40 to R42, R55
to R61, R63).
-/
namespace Sys2Proof.Machine

/-! ### Doors -/

/-- What makes a change of a door line a door event. -/
theorem doorEvent_iff (s : State) (c : CompNo) : (s.powered && s.comps[c].active) = true
    ↔ s.power = .present ∧ s.comps[c].settings.active = true := by
  rw [Bool.and_eq_true, State.powered, beq_iff_eq]
  rfl

theorem exec_doorOpens (c : CompNo) (s : State) : exec (.doorOpens c) s = .next
    (if s.doorLines[c] then s
     else if s.powered && s.comps[c].active then (s.setDoorLine c true).setComp c (s.comps[c].opened s.clock)
     else s.setDoorLine c true) := rfl

theorem exec_doorCloses (c : CompNo) (s : State) : exec (.doorCloses c) s = .next
    (if !s.doorLines[c] then s
     else if s.powered && s.comps[c].active then (s.setDoorLine c false).setComp c s.comps[c].shut
     else s.setDoorLine c false) := rfl

theorem doorEventsFollowTheLine : DoorEventsFollowTheLine := by
  intro c s x event
  have hevent : (s.powered && s.comps[c].active) = true ↔ event := doorEvent_iff s c
  refine ⟨fun hline he => ?_, fun hline he => ?_, fun hline => ?_, fun hline he => ?_, fun hline he => ?_, fun hline => ?_⟩
  · rw [exec_doorOpens, hline, if_neg (by nofun), if_pos (hevent.mpr he)]
    rfl
  · rw [exec_doorOpens, hline, if_neg (by nofun), if_neg (mt hevent.mp he)]
    rfl
  · rw [exec_doorOpens, if_pos hline]
  · rw [exec_doorCloses, hline, if_neg (by nofun), if_pos (hevent.mpr he)]
    rfl
  · rw [exec_doorCloses, hline, if_neg (by nofun), if_neg (mt hevent.mp he)]
    rfl
  · rw [exec_doorCloses, hline, Bool.not_false, if_pos rfl]

theorem exec_doorLong (c : CompNo) (s : State) : exec (.doorLong c) s = .next
    (if s.powered && s.comps[c].doorOpen && s.comps[c].doorDeadline.any (reached s.clock) then
      (s.setComp c { s.comps[c] with doorDeadline := none }).raise (compFlag .doorLong c)
     else s) := rfl

theorem reached_iff (now t : RouteTime) : reached now t = true ↔ (now - t).toNat < 2147483648 := decide_eq_true_iff

theorem doorLongReportedOnce : DoorLongReportedOnce := by
  intro c d s hp
  have hpower : s.powered = true := beq_iff_eq.mpr hp
  refine ⟨fun hopen hd hreached => ?_, fun hno => ?_⟩
  · have hdue : s.comps[c].doorDeadline.any (reached s.clock) = true := by
      rw [hd]
      exact (reached_iff _ _).mpr hreached
    rw [exec_doorLong, if_pos (by rw [hpower, hopen, hdue]; rfl)]
    rfl
  · rw [exec_doorLong, if_neg]
    rcases hno with hshut | hnone | ⟨hd, hfar⟩
    · rw [hshut, Bool.and_false, Bool.false_and]
      nofun
    · rw [hnone, Option.any_none, Bool.and_false]
      nofun
    · rw [hd, Option.any_some, Bool.and_eq_true, reached_iff]
      omega

/-- Settles O42, by its two parts. -/
theorem doorsCountedAndReported : Obligations.DoorsCountedAndReported :=
  ⟨doorEventsFollowTheLine, doorLongReportedOnce⟩

/-! ### The schedule -/

/-- A probe is on the scan list exactly while it is in service. -/
theorem scanList_contains (s : State) (n : ProbeNo) : s.scanList.contains n = s.inService n := by
  rw [State.scanList, Bool.eq_iff_iff, List.contains_iff_mem, List.mem_filter]
  exact ⟨fun h => h.2, fun h => ⟨List.mem_finRange n, h⟩⟩

/-- A scan started: every probe on its list is polled, and with none its snapshots are formed. -/
theorem startScan_eq (s : State) : s.startScan =
    let started : State :=
      { s with
        scanner := { s.scanner with
          phase := .polling, list := s.scanList, toPoll := s.scanList
          span := some (s.scanner.periodInForce * (1 + s.scanner.lag)), lag := 0 }
        probes := Vector.ofFn (fun n : ProbeNo =>
          { s.probes[n] with answered := false, steady := s.scanList.contains n }) }
    if s.scanList = [] then started.formSnapshots else started := by
  simp only [scanList_contains]
  rfl

/-- A tick on main power with a next tick set. -/
theorem exec_scanTick {s : State} {t : RouteTime} (hp : s.power = .present) (ht : s.scanner.nextTick = some t) :
    exec .scanTick s = .next
      (if reached s.clock t then
        if s.scanner.phase = ScanPhase.idle then (s.takeTick t).startScan else (s.takeTick t).missTick
       else s) := by
  show Host.Outcome.next
    (match s.scanner.nextTick with
     | some t =>
       if s.powered && reached s.clock t then
         if s.scanner.phase = ScanPhase.idle then (s.takeTick t).startScan else (s.takeTick t).missTick
       else s
     | none => s) = _
  rw [ht, show s.powered = true from beq_iff_eq.mpr hp]
  rfl

/-- Settles O43. -/
theorem reachedTickStartsOrMissesAScan : Obligations.ReachedTickStartsOrMissesAScan := by
  intro t s hp ht ticked list started
  refine ⟨fun hfar => ?_, fun hreached hidle => ?_, fun hreached hbusy => ?_⟩
  · rw [exec_scanTick hp ht, if_neg (by rw [reached_iff]; omega)]
  · rw [exec_scanTick hp ht, if_pos ((reached_iff _ _).mpr hreached), if_pos hidle, startScan_eq]
    rfl
  · rw [exec_scanTick hp ht, if_pos ((reached_iff _ _).mpr hreached), if_neg hbusy]
    rfl

/-! ### The poll -/

/-- A status is a fault by its three names. -/
theorem isFault_iff (x : ProbeStatus) : x.isFault = true ↔ x = .openElement ∨ x = .shortElement ∨ x = .silent := by
  cases x <;> simp [ProbeStatus.isFault]

/-- What the end of a poll makes of the probe polled and of those still to be polled. -/
def State.pollEnded (s : State) (n : ProbeNo) (rest : List ProbeNo) (o : PollOutcome) : State :=
  { s with
    scanner := { s.scanner with toPoll := rest }
    probes := if s.inService n = true ∧ s.probes[n].steady = true then put s.probes n (s.probes[n].record o) else s.probes }

/-- What the end of a poll raises. -/
def State.pollFlags (s : State) (n : ProbeNo) (o : PollOutcome) : FlagSet :=
  if s.inService n = true ∧ s.probes[n].steady = true ∧ s.probes[n].status.isFault = false ∧ o.status.isFault = true
  then compFlag .fault (probeComp n) else 0

/-- The outcome recorded or dropped, with FAULT raised on its transition. -/
theorem recordOutcome_eq (s : State) (n : ProbeNo) (rest : List ProbeNo) (o : PollOutcome) :
    { s.recordOutcome n o with scanner := { (s.recordOutcome n o).scanner with toPoll := rest } }
      = (s.pollEnded n rest o).raise (s.pollFlags n o) := by
  unfold State.recordOutcome State.pollEnded State.pollFlags
  by_cases htaken : s.inService n = true ∧ s.probes[n].steady = true
  · obtain ⟨hserved, hsteady⟩ := htaken
    have hflag : flagIf (!s.probes[n].status.isFault && o.status.isFault) (compFlag .fault (probeComp n))
        = if s.probes[n].status.isFault = false ∧ o.status.isFault = true then compFlag .fault (probeComp n) else 0 := by
      rw [flagIf]
      simp only [Bool.and_eq_true, Bool.not_eq_true']
    simp only [hserved, hsteady, hflag, Bool.and_self, if_true, true_and, and_self]
    rfl
  · have hboth : ¬(s.inService n && s.probes[n].steady) = true := by rwa [Bool.and_eq_true]
    rw [if_neg hboth, if_neg htaken, if_neg (fun h => htaken ⟨h.1, h.2.1⟩), State.raise_zero]

theorem endPoll_eq (s : State) (n : ProbeNo) (rest : List ProbeNo) (o : PollOutcome) : s.endPoll n rest o =
    if rest = [] then ((s.pollEnded n rest o).raise (s.pollFlags n o)).formSnapshots
    else (s.pollEnded n rest o).raise (s.pollFlags n o) := by
  unfold State.endPoll
  dsimp only
  rw [recordOutcome_eq]
  rfl

/-- The polling state of a scan on main power. -/
theorem polling_eq {s : State} {n : ProbeNo} {rest : List ProbeNo} (hp : s.power = .present)
    (hphase : s.scanner.phase = .polling) (hlist : s.scanner.toPoll = n :: rest) : s.polling = some (n, rest) := by
  rw [State.polling, if_pos (by rw [State.powered, hp, hphase]; rfl), hlist]

theorem exec_probeAnswer {s : State} {n m : ProbeNo} {rest : List ProbeNo} (h : s.polling = some (n, rest)) (a : Answer)
    (ok : Bool) : exec (.probeAnswer m a ok) s
      = .next (if n = m ∧ ok then s.endPoll m rest (answerOutcome a) else s) := by
  show Host.Outcome.next
    (match s.polling with
     | some (n, rest) => if n = m ∧ ok then s.endPoll m rest (answerOutcome a) else s
     | none => s) = _
  rw [h]

theorem exec_probeSilent {s : State} {n : ProbeNo} {rest : List ProbeNo} (h : s.polling = some (n, rest)) :
    exec .probeSilent s = .next (s.endPoll n rest .silent) := by
  show Host.Outcome.next
    (match s.polling with
     | some (n, rest) => s.endPoll n rest .silent
     | none => s) = _
  rw [h]

/-- Settles O44: each of the four outcomes ends the poll alike. -/
theorem pollEndsWithItsOutcome : Obligations.PollEndsWithItsOutcome := by
  intro n rest a s hp hphase hlist x served isFault ends next answers
  have hpolling := polling_eq hp hphase hlist
  have hanswers : ∀ (c : Instr) (o : PollOutcome), exec c s = .next (s.endPoll n rest o) →
      answers c o.status o.reading := by
    intro c o hc
    have hfault : ∀ y : ProbeStatus, y.isFault = true ↔ isFault y := isFault_iff
    refine ⟨s.pollFlags n o, ?_, fun hserved hsteady hwas hnow => ?_, fun hno => ?_⟩
    · have hends : s.pollEnded n rest o = ends o.status o.reading := by
        by_cases htaken : served = true ∧ x.steady = true
        · have hleft : ends o.status o.reading = _ := if_pos htaken
          rw [hleft, State.pollEnded, if_pos (show s.inService n = true ∧ s.probes[n].steady = true from htaken)]
          rfl
        · have hleft : ends o.status o.reading = _ := if_neg htaken
          rw [hleft, State.pollEnded, if_neg (show ¬(s.inService n = true ∧ s.probes[n].steady = true) from htaken)]
      rw [hc, endPoll_eq, hends]
    · exact if_pos ⟨hserved, hsteady, by rwa [← Bool.not_eq_true, hfault], (hfault _).mpr hnow⟩
    · refine if_neg fun ⟨hserved, hsteady, hwas, hnow⟩ => hno ⟨hserved, hsteady, ?_, (hfault _).mp hnow⟩
      rwa [← hfault, Bool.not_eq_true]
  refine ⟨fun t => ?_, ?_, ?_, ?_, ?_, fun m ok hm => ?_⟩
  · have h := hanswers (.probeAnswer n (.temperature t) true) (.temperature t.toInt)
      (by rw [exec_probeAnswer hpolling, if_pos ⟨rfl, rfl⟩]; rfl)
    rw [PollOutcome.reading, clampTemp_eq] at h
    exact h
  · exact hanswers _ .openElement (by rw [exec_probeAnswer hpolling, if_pos ⟨rfl, rfl⟩]; rfl)
  · exact hanswers _ .shortElement (by rw [exec_probeAnswer hpolling, if_pos ⟨rfl, rfl⟩]; rfl)
  · exact hanswers _ .silent (exec_probeSilent hpolling)
  · rw [exec_probeAnswer hpolling, if_neg (by nofun)]
  · rw [exec_probeAnswer hpolling, if_neg (fun h => hm h.1.symm)]

end Sys2Proof.Machine
end

section
/-!
PROOFS. The forming of a scan's snapshots: the source of each, the shield, the conditions raised and the pass requested (R36,
R47, R63 to R66, R71).
-/
namespace Sys2Proof.Machine

/-! ### Flags -/

theorem flagIf_getLsbD (p : Bool) (f : FlagSet) (b : Nat) :
    (flagIf p f).getLsbD b = true ↔ p = true ∧ f.getLsbD b = true := by
  unfold flagIf
  cases p <;> simp

theorem or_getLsbD (f g : FlagSet) (b : Nat) :
    (f ||| g).getLsbD b = true ↔ f.getLsbD b = true ∨ g.getLsbD b = true := by
  rw [BitVec.getLsbD_or, Bool.or_eq_true]

/-! ### The forming as a whole -/

/-- The reading of a probe that takes part in a scan's forming. -/
theorem partReading_eq (s : State) (n : ProbeNo) : s.partReading n =
    if servedBy (s.comps[(⟨n.val / 2, by omega⟩ : CompNo)]).settings n = true ∧ s.probes[n].answered = true
      ∧ (s.probes[n].status = .good ∨ s.probes[n].status = .clamped) then s.probes[n].reading else none := by
  unfold State.partReading
  simp only [Bool.and_eq_true, Bool.or_eq_true, beq_iff_eq, and_assoc]
  rfl

/-- The conditions that all four compartments raise. -/
def State.allFormedFlags (s : State) : FlagSet :=
  s.formedFlags 0 ||| s.formedFlags 1 ||| s.formedFlags 2 ||| s.formedFlags 3

theorem allFormedFlags_getLsbD (s : State) (b : Nat) : s.allFormedFlags.getLsbD b = true
    ↔ ∃ c : CompNo, s.comps[c].settings.active = true
      ∧ (s.comps[c].formFlags c (s.partReading (simulantProbe c)) (s.partReading (airProbe c))).getLsbD b = true := by
  have hone : ∀ c : CompNo, (s.formedFlags c).getLsbD b = true ↔ s.comps[c].settings.active = true
      ∧ (s.comps[c].formFlags c (s.partReading (simulantProbe c)) (s.partReading (airProbe c))).getLsbD b = true :=
    fun c => flagIf_getLsbD _ _ _
  rw [State.allFormedFlags, or_getLsbD, or_getLsbD, or_getLsbD]
  constructor
  · rintro (((h | h) | h) | h)
    exacts [⟨0, (hone 0).mp h⟩, ⟨1, (hone 1).mp h⟩, ⟨2, (hone 2).mp h⟩, ⟨3, (hone 3).mp h⟩]
  · rintro ⟨c, hc⟩
    have h := (hone c).mpr hc
    match c with
    | 0 => exact .inl (.inl (.inl h))
    | 1 => exact .inl (.inl (.inr h))
    | 2 => exact .inl (.inr h)
    | 3 => exact .inr h

theorem formingRequestsThePass : FormingRequestsThePass := by
  intro s partOf sim air
  have hpart : ∀ n : ProbeNo, s.partReading n = partOf n := partReading_eq s
  have hsim : ∀ c : CompNo, s.partReading (simulantProbe c) = sim c := fun c => hpart _
  have hair : ∀ c : CompNo, s.partReading (airProbe c) = air c := fun c => hpart _
  have hcomp : ∀ c : CompNo, (Vector.ofFn (s.formedComp (s.scanner.span.getD 0)))[c]
      = s.formedComp (s.scanner.span.getD 0) c := fun c => by simp
  refine ⟨Vector.ofFn (s.formedComp (s.scanner.span.getD 0)), s.allFormedFlags, rfl, fun c hoff => ?_, fun c hon => ?_,
    fun b => ?_, rfl, rfl⟩
  · rw [hcomp, State.formedComp, if_neg (by rw [Compartment.active, hoff]; nofun)]
  · rw [hcomp, State.formedComp, if_pos (show s.comps[c].active = true from hon), hsim, hair]
  · simp only [allFormedFlags_getLsbD, hsim, hair]

/-! ### The source of a snapshot -/

section
variable {x : Compartment} {sim air : Option Int}

theorem select_simulant {t : Int} (h : sim = some t) : x.select sim air = (.simulant t, some t, 0) := by
  subst h
  rfl

/-- Whether the air probe counts. -/
theorem airCounts_iff : (!x.doorOpen && x.defrost != .defrost) = true ↔ x.doorOpen = false ∧ x.defrost ≠ .defrost := by
  simp

theorem select_air {a : Int} (hsim : sim = none) (hcounts : x.doorOpen = false ∧ x.defrost ≠ .defrost)
    (ha : air = some a) : x.select sim air
      = (.air (clampTemp (a + x.settings.airOffset)), some (clampTemp (a + x.settings.airOffset)), 0) := by
  subst hsim ha
  unfold Compartment.select
  rw [if_pos (airCounts_iff.mpr hcounts)]

/-- Without a probe's reading that counts, none takes part. -/
theorem air_unread (hno : ¬(x.doorOpen = false ∧ x.defrost ≠ .defrost) ∨ air = none) :
    (if !x.doorOpen && x.defrost != .defrost then air else none) = none := by
  split
  · next hcounts => exact hno.resolve_left (not_not.mpr (airCounts_iff.mp hcounts))
  · rfl

/-- Then the source is the last good reading while it may be held. -/
theorem select_lastGood {g : Int} (hsim : sim = none) (hno : ¬(x.doorOpen = false ∧ x.defrost ≠ .defrost) ∨ air = none)
    (hg : x.lastGood = some g) (hheld : x.held < x.settings.holdLimit) :
    x.select sim air = (.held g, some g, x.held + 1) := by
  subst hsim
  simp only [Compartment.select, air_unread hno, hg, hheld, if_true]

/-- And BLIND without one, or when it has been held long enough. -/
theorem select_blind (hsim : sim = none) (hno : ¬(x.doorOpen = false ∧ x.defrost ≠ .defrost) ∨ air = none)
    (hnone : x.lastGood = none ∨ x.settings.holdLimit ≤ x.held) :
    x.select sim air = (.blind, x.lastGood, x.held) := by
  subst hsim
  cases hg : x.lastGood with
  | none => simp only [Compartment.select, air_unread hno, hg]
  | some g =>
    have hheld : ¬x.held < x.settings.holdLimit := by
      rcases hnone with h | h
      · rw [hg] at h
        cases h
      · omega
    simp only [Compartment.select, air_unread hno, hg, hheld, if_false]

end

/-- What a countdown leaves: the settings, the door and its openings. -/
theorem countDown_keeps (x : Compartment) : x.countDown.settings = x.settings ∧ x.countDown.doorOpen = x.doorOpen
    ∧ x.countDown.openings = x.openings ∧ x.countDown.doorDeadline = x.doorDeadline := by
  rcases countDown_cases x with h | ⟨a, b, -, -, h⟩ <;> rw [h] <;> exact ⟨rfl, rfl, rfl, rfl⟩

theorem sourceChosenByTheTable : SourceChosenByTheTable := by
  intro x sim air span now airCounts
  obtain ⟨hsettings, hdoor, hopenings, hdeadline⟩ := countDown_keeps x
  refine ⟨_, _, rfl, rfl, rfl, rfl, rfl, rfl, rfl, hsettings, hdoor, hopenings, hdeadline, fun t ht => ?_,
    fun a hsim hcounts ha => ?_, fun hsim hno => ⟨fun g hg hheld => ?_, fun hno' => ?_⟩⟩
  · simp only [Compartment.form, select_simulant ht, and_self]
  · simp only [Compartment.form, select_air hsim hcounts ha, clampTemp_eq, and_self]
  · simp only [Compartment.form, select_lastGood hsim hno hg hheld, and_self]
  · simp only [Compartment.form, select_blind hsim hno hno', and_self]

/-! ### The shield and the conditions of a snapshot -/

theorem shieldsNext_iff (x : Compartment) : x.shieldsNext = true ↔ x.defrost ≠ .normal ∧ 0 < x.shieldLeft := by
  simp [Compartment.shieldsNext]

/-- The conditions a change of source raises. -/
theorem sourceFlag_getLsbD (c : CompNo) (kept : Option Source) (new : Source) (b : Nat) :
    (sourceFlag c kept new).getLsbD b = true ↔
      (b = 8 * c.val + 1 ∧ new = .held ∧ (kept = some .simulant ∨ kept = some .air))
        ∨ (b = 8 * c.val + 2 ∧ new = .blind ∧ kept ≠ some .blind) := by
  cases new <;> simp [sourceFlag, flagIf_getLsbD, compFlag_getLsbD, CompFlag.bit, and_comm]

/-- SHIELD_SPENT is the condition of a last shielded snapshot. -/
theorem spendsShield_iff (x : Compartment) : x.spendsShield = true
    ↔ x.shieldsNext = true ∧ x.shieldLeft = 1 ∧ x.countDown.defrost ≠ .normal := by
  simp [Compartment.spendsShield, and_assoc]

theorem formFlags_getLsbD (x : Compartment) (c : CompNo) (sim air : Option Int) (b : Nat) :
    (x.formFlags c sim air).getLsbD b = true ↔
      (b = 8 * c.val + 4 ∧ x.shieldsNext = true ∧ x.shieldLeft = 1 ∧ x.countDown.defrost ≠ .normal)
        ∨ (b = 8 * c.val + 1 ∧ (x.select sim air).1.source = .held
          ∧ (x.keptSource = some .simulant ∨ x.keptSource = some .air))
        ∨ (b = 8 * c.val + 2 ∧ (x.select sim air).1.source = .blind ∧ x.keptSource ≠ some .blind) := by
  rw [Compartment.formFlags, or_getLsbD, sourceFlag_getLsbD, flagIf_getLsbD, compFlag_getLsbD, spendsShield_iff, or_comm]
  simp only [CompFlag.bit, and_comm (b := b = 8 * c.val + 4)]

/-- The countdown by the state of the defrost. -/
theorem countDown_spec (x : Compartment) :
    let left := if x.shieldsNext = true then x.shieldLeft - 1 else x.shieldLeft
    (x.defrost = .recovery → x.recoveryLeft ≤ 1 →
        x.countDown.defrost = .normal ∧ x.countDown.shieldLeft = 0 ∧ x.countDown.recoveryLeft = 0)
      ∧ (x.defrost = .recovery → 1 < x.recoveryLeft → x.countDown.defrost = .recovery ∧ x.countDown.shieldLeft = left
          ∧ x.countDown.recoveryLeft = x.recoveryLeft - 1)
      ∧ (x.defrost ≠ .recovery → x.countDown.defrost = x.defrost ∧ x.countDown.shieldLeft = left
          ∧ x.countDown.recoveryLeft = x.recoveryLeft) := by
  refine ⟨fun hd hlast => ?_, fun hd hmore => ?_, fun hd => ?_⟩
  · rw [Compartment.countDown, if_pos hd, if_pos (by omega)]
    exact ⟨rfl, rfl, rfl⟩
  · rw [Compartment.countDown, if_pos hd, if_neg (by omega)]
    exact ⟨hd, rfl, rfl⟩
  · rw [Compartment.countDown, if_neg hd]
    exact ⟨rfl, rfl, rfl⟩

theorem shieldSpentAtTheSnapshot : ShieldSpentAtTheSnapshot := by
  intro x c sim air span now _
  exact ⟨_, _, rfl, rfl, shieldsNext_iff x, countDown_spec x, fun b => formFlags_getLsbD x c sim air b⟩

/-- Settles O45, by its three parts. -/
theorem snapshotsFormedByTheirTables : Obligations.SnapshotsFormedByTheirTables :=
  ⟨formingRequestsThePass, sourceChosenByTheTable, shieldSpentAtTheSnapshot⟩

end Sys2Proof.Machine
end

section
/-!
PROOFS. The visits of the accrual pass and of the gap pass, and the ends of both passes (R62, R72, R73, R78 to R86, R97, R155
to R157).
-/
namespace Sys2Proof.Machine

/-! ### A visit to a slot -/

/-- A record visited: what the visit makes of it is written back, with what it raises. -/
theorem visitSlot_some {s : State} {i : SlotNo} {f : Record → Record × FlagSet} {r q : Record} {fl : FlagSet}
    (hr : s.slots[i] = some r) (hf : f r = (q, fl)) :
    s.visitSlot i f = { (s.raise fl) with slots := put s.slots i (some q) } := by
  rw [State.visitSlot, hr]
  dsimp only
  rw [hf]
  rfl

/-- A visit that leaves every record as it is, and raises nothing. -/
theorem visitSlot_passes {s : State} {i : SlotNo} {f : Record → Record × FlagSet}
    (h : ∀ r : Record, s.slots[i] = some r → f r = (r, 0)) : s.visitSlot i f = s := by
  unfold State.visitSlot
  cases hr : s.slots[i] with
  | none => rfl
  | some r =>
    dsimp only
    rw [h r hr, State.raise_zero, State.setSlot_self hr]

/-- What holds of the verdicts reached as a list holds of them as a predicate. -/
theorem Applied.of_mem {reached : List ReasonCause} {P : ReasonCause → Prop} (r : Record)
    (h : ∀ c : ReasonCause, c ∈ reached ↔ P c) : Applied r (applyReached reached r).1 (applyReached reached r).2 P := by
  have hP : (· ∈ reached) = P := funext fun c => propext (h c)
  rw [← hP]
  exact verdictRisesInOneAct reached r

/-! ### The accrual visit -/

/-- The end of an accrual visit on main power. -/
theorem exec_accrualVisit_ends {s : State} {inp : StepInputs} {g : ScanTag} (h : s.workIs .accrual inp)
    (hg : s.exposure.passTag = some g) : exec (.accrualVisit .ends) s = .next
      (s.visitSlot s.exposure.accrualCursor (accrualVisited inp s.classes g)).freeEngine.accrualAdvance := by
  have hends : exec (.accrualVisit .ends) s = .next (accrualWork inp s).freeEngine.accrualAdvance :=
    congrArg Host.Outcome.next (endStep_work (kind := (· == .accrual)) h rfl)
  rw [hends, accrualWork, hg]

/-- A record without live fields, or one that carries the pass's tag, is passed over. -/
theorem accrualVisited_passes {inp : StepInputs} {classes : Vector (Option ClassLimits) 8} {g : ScanTag} {r : Record}
    (h : ∀ l : LiveFields, r.live = some l → l.tag = g) : accrualVisited inp classes g r = (r, 0) := by
  unfold accrualVisited
  split
  · rename_i l k n hl _ _
    rw [if_pos (h l hl)]
  · rfl

/-- Any other live record is charged. -/
theorem accrualVisited_charges {inp : StepInputs} {classes : Vector (Option ClassLimits) 8} {g : ScanTag} {r : Record}
    {l : LiveFields} {k : ClassLimits} {n : Snapshot} (hl : r.live = some l) (htag : l.tag ≠ g)
    (hk : classes[r.cls] = some k) (hn : inp.comps[r.comp].snapshot = some n) :
    accrualVisited inp classes g r = r.charge l k inp.comps[r.comp].ceilingInForce n g := by
  unfold accrualVisited
  rw [hl, hk, hn]
  exact if_neg htag

/-! ### The figures of a charge -/

/-- The warm excess is the reading's height above U. -/
theorem warmExcess_eq (k : ClassLimits) (te : Int) :
    warmExcess k te = if k.upper < te then (te - k.upper).toNat else 0 := by
  unfold warmExcess
  split <;> omega

/-- The cold excess is its depth below L, where the class has one. -/
theorem coldExcess_eq (k : ClassLimits) (t : Int) : coldExcess k t = match k.low with
    | some l => if t < l.lower then (l.lower - t).toNat else 0
    | none => 0 := by
  unfold coldExcess
  cases k.low with
  | none => rfl
  | some l =>
    dsimp only
    split <;> omega

theorem excesses_eq (k : ClassLimits) (ceiling : Int) (shielded : Bool) (t : Int) :
    excesses k ceiling shielded t = (warmExcess k (effectiveTemp k ceiling shielded t), coldExcess k t) := by
  rw [warmExcess_eq, coldExcess_eq]
  rfl

/-- A peak high widened by a reading. -/
theorem widened_high (p : Option Int) (t : Int) : p.elim t (max t) = match p with
    | some h => if h < t then t else h
    | none => t := by
  cases p with
  | none => rfl
  | some h =>
    show max t h = if h < t then t else h
    split <;> omega

/-- And a peak low. -/
theorem widened_low (p : Option Int) (t : Int) : p.elim t (min t) = match p with
    | some h => if t < h then t else h
    | none => t := by
  cases p with
  | none => rfl
  | some h =>
    show min t h = if t < h then t else h
    split <;> omega

/-- A charge from a BLIND snapshot. -/
theorem charge_blind {r : Record} {l : LiveFields} {k : ClassLimits} {ceiling : Int} {n : Snapshot} (hl : r.live = some l)
    (ht : n.reading.temp = none) (g : ScanTag) :
    r.charge l k ceiling n g = applyReached (blindTest k (min 4294967295 (r.blind + 6 * n.span)))
      { r with blind := min 4294967295 (r.blind + 6 * n.span), custody := r.custody.retag g } := by
  rw [charge_eq hl, Record.chargeFigures, ht]
  rfl

/-- A charge from a reading. -/
theorem charge_reading {r : Record} {l : LiveFields} {k : ClassLimits} {ceiling : Int} {n : Snapshot} {t : Int}
    (hl : r.live = some l) (ht : n.reading.temp = some t) (g : ScanTag) :
    r.charge l k ceiling n g =
      let e := excesses k ceiling n.shielded t
      let warm := min 16777215 (r.warm + e.1 * n.span)
      let cold := min 16777215 (r.cold + e.2 * n.span)
      applyReached (hardHighTest k t ++ hardLowTest k t ++ budgetTests k warm cold)
        { r with
          warm := warm, cold := cold
          excursion := if 0 < e.1 ∨ 0 < e.2 then min 4294967295 (r.excursion + 6 * n.span) else r.excursion
          peakHigh := some (r.peakHigh.elim t (max t)), peakLow := some (r.peakLow.elim t (min t))
          custody := r.custody.retag g } := by
  rw [charge_eq hl, Record.chargeFigures, ht, excesses_eq]
  rfl

/-- The verdicts a charge from a reading reaches. -/
theorem mem_readingTests {k : ClassLimits} {t : Int} {warm cold : Nat} {x : ReasonCause} :
    x ∈ hardHighTest k t ++ hardLowTest k t ++ budgetTests k warm cold
      ↔ HardReached k (some t) (some t) x ∨ BudgetReached k warm cold x := by
  rw [List.mem_append, mem_budgetTests]
  exact or_congr_left (mem_hardTests (high := some t) (low := some t))

/-- Settles O47: a visit passes over its record or charges it by the stages. -/
theorem accrualVisitChargesByTheStages : Obligations.AccrualVisitChargesByTheStages := by
  intro inp g s h hg i ends
  have hends := exec_accrualVisit_ends h hg
  constructor
  · intro hpass
    rw [hends, visitSlot_passes fun r hr => accrualVisited_passes (hpass r · hr)]
    show Host.Outcome.next s.freeEngine.accrualAdvance
      = .next (State.accrualAdvance { (s.raise 0) with slots := s.slots, engine := none })
    rw [State.raise_zero]
    rfl
  · intro r l k n hr hl htag hk hn tagged
    have hvisit := accrualVisited_charges hl htag hk hn
    have hvisited : ∀ (q : Record) (fl : FlagSet), accrualVisited inp s.classes g r = (q, fl) →
        exec (.accrualVisit .ends) s = ends (put s.slots i (some q)) fl := by
      intro q fl hq
      rw [hends, visitSlot_some hr hq]
      rfl
    refine ⟨fun ht => ?_, fun t ht => ?_⟩
    · rw [charge_blind hl ht] at hvisit
      exact ⟨_, _, hvisited _ _ hvisit, Applied.of_mem _ fun _ => mem_blindTest⟩
    · rw [charge_reading hl ht, widened_high, widened_low] at hvisit
      exact ⟨_, _, hvisited _ _ hvisit, Applied.of_mem _ fun x => mem_readingTests⟩

/-! ### The end of the accrual pass -/

theorem accrualAdvance_below {s : State} {j : SlotNo} (h : j.val = s.exposure.accrualCursor.val + 1) :
    s.accrualAdvance = { s with exposure := { s.exposure with accrualCursor := j } } := by
  have hj : (⟨s.exposure.accrualCursor.val + 1, by omega⟩ : SlotNo) = j := Fin.ext h.symm
  rw [State.accrualAdvance, dif_pos (by omega), hj]

/-- After slot 127's visit the scanner is IDLE, unless ticks were missed: then a late scan starts at once. -/
theorem accrualAdvance_last {s : State} (h : s.exposure.accrualCursor.val = 127) :
    let u : State :=
      { s with
        exposure := { s.exposure with accrualCursor := 0, passTag := none }
        scanner := { s.scanner with phase := .idle, span := none } }
    s.accrualAdvance = if 0 < s.scanner.lag then u.startScan else u := by
  intro u
  rw [State.accrualAdvance, dif_neg (by omega)]
  rfl

/-- Settles O48. -/
theorem accrualPassEndsAfterItsLastSlot : Obligations.AccrualPassEndsAfterItsLastSlot := by
  intro s
  refine ⟨fun j hj => accrualAdvance_below hj, fun h127 => ?_⟩
  intro u
  have hlast := accrualAdvance_last h127
  refine ⟨fun hzero => ?_, fun hlate hsome => ?_, fun hlate hnone => ?_⟩
  · rw [hlast, if_neg (by omega)]
  · have hscan : s.accrualAdvance = u.startScan := by rw [hlast, if_pos hlate]
    rw [hscan, startScan_eq]
    dsimp only
    rw [if_neg hsome]
    exact ⟨rfl, rfl, rfl, rfl⟩
  · have hscan : s.accrualAdvance = u.startScan := by rw [hlast, if_pos hlate]
    rw [hscan, startScan_eq]
    dsimp only
    rw [if_pos hnone]
    exact ⟨rfl, rfl, rfl, rfl, rfl⟩

/-! ### The gap pass -/

/-- The end of a gap visit on main power. -/
theorem exec_gapVisit_ends {s : State} {inp : StepInputs} (h : s.workIs .gap inp) :
    exec (.gapVisit .ends) s = .next (gapWork inp s).freeEngine.gapAdvance :=
  congrArg Host.Outcome.next (endStep_work (kind := (· == .gap)) h rfl)

/-- A gap visit's slot that is not exempt. -/
theorem gapWork_visits {s : State} {inp : StepInputs} (h : s.exposure.gapExempt[s.exposure.gapCursor] = false) :
    gapWork inp s
      = s.visitSlot s.exposure.gapCursor (gapVisited inp s.classes s.exposure.gapAmount.toNat) := by
  rw [gapWork, h, if_neg (by nofun)]

theorem gapVisited_passes {inp : StepInputs} {classes : Vector (Option ClassLimits) 8} {amount : Nat} {r : Record}
    (h : r.live = none) : gapVisited inp classes amount r = (r, 0) := by
  rw [gapVisited, h]

theorem gapVisited_charges {inp : StepInputs} {classes : Vector (Option ClassLimits) 8} {amount : Nat} {r : Record}
    {l : LiveFields} {k : ClassLimits} (hl : r.live = some l) (hk : classes[r.cls] = some k) :
    gapVisited inp classes amount r = applyReached (blindTest k (min 4294967295 (r.blind + amount)))
      { r with blind := min 4294967295 (r.blind + amount), custody := r.custody.retag inp.tag } := by
  have hcharge : gapVisited inp classes amount r = r.chargeGap l k amount inp.tag := by
    unfold gapVisited
    rw [hl, hk]
  rw [hcharge, chargeGap_eq hl]
  rfl

theorem gapAdvance_below {s : State} {j : SlotNo} (h : j.val = s.exposure.gapCursor.val + 1) :
    s.gapAdvance = { s with exposure := { s.exposure with gapCursor := j } } := by
  have hj : (⟨s.exposure.gapCursor.val + 1, by omega⟩ : SlotNo) = j := Fin.ext h.symm
  rw [State.gapAdvance, dif_pos (by omega), hj]

theorem gapAdvance_last {s : State} {e : RouteTime} (h : s.exposure.gapCursor.val = 127)
    (he : s.exposure.gapEnd = some e) : s.gapAdvance =
      { s with
        lastSnapshotTime := e, lapseHeld := false
        exposure := { s.exposure with gapEnd := none, gapCursor := 0, gapExempt := Vector.replicate 128 false }
        lapseWaiting := lapseDue { s with lapseHeld := false } s.offers
        scanner := { s.scanner with nextTick := some (s.clock + BitVec.ofNat 32 (s.scanner.periodInForce * 6)) } } := by
  rw [State.gapAdvance, dif_neg (by omega), State.gapEnded, retestHead_eq, he]
  rfl

/-- Settles O49. -/
theorem gapVisitChargesBlindTime : Obligations.GapVisitChargesBlindTime := by
  intro inp s h i ends
  have hends := exec_gapVisit_ends h
  refine ⟨fun hexempt => ?_, fun hnot => ⟨fun hdead => ?_, fun r l k hr hl hk => ?_⟩,
    fun u => ⟨fun j hj => gapAdvance_below hj, fun e h127 he => gapAdvance_last h127 he⟩⟩
  · rw [hends, gapWork, if_pos hexempt]
    rfl
  · rw [hends, gapWork_visits hnot, visitSlot_passes fun r hr => gapVisited_passes (hdead r hr)]
    rfl
  · have hvisit := gapVisited_charges (inp := inp) (amount := s.exposure.gapAmount.toNat) hl hk
    refine ⟨_, _, ?_, Applied.of_mem _ fun _ => mem_blindTest⟩
    rw [hends, gapWork_visits hnot, visitSlot_some hr hvisit]
    rfl

end Sys2Proof.Machine
end

section
/-!
PROOFS. The loss of main power and the step in progress at it (R153).
-/
namespace Sys2Proof.Machine

/-! ### What the retention domain holds of the table and the compartments -/

/-- Two states with the same table, and the same settings and last good readings. -/
def SameRetained (u t : State) : Prop :=
  SameTable u t ∧ ∀ c : CompNo, t.comps[c].settings = u.comps[c].settings ∧ t.comps[c].lastGood = u.comps[c].lastGood

namespace SameRetained

theorem refl (s : State) : SameRetained s s := ⟨.refl s, fun _ => ⟨rfl, rfl⟩⟩

theorem trans {s t u : State} (h : SameRetained s t) (h' : SameRetained t u) : SameRetained s u :=
  ⟨h.1.trans h'.1, fun c => ⟨(h'.2 c).1.trans (h.2 c).1, (h'.2 c).2.trans (h.2 c).2⟩⟩

/-- Two states with the same compartments and table. -/
theorem of_comps {s t : State} (h : SameTable s t) (hc : t.comps = s.comps) : SameRetained s t :=
  ⟨h, fun c => by rw [hc]; exact ⟨rfl, rfl⟩⟩

/-- The scanner, the probes and the exposure engine are no part of it. -/
theorem setScan {s : State} {sc : Scanner} {pr : Vector Probe 8} {ex : ExposureEngine} :
    SameRetained s { s with scanner := sc, probes := pr, exposure := ex } := .of_comps ⟨rfl, rfl, rfl, rfl, rfl, rfl⟩ rfl

theorem powerDown (s : State) : SameRetained s s.powerDown :=
  ⟨⟨rfl, rfl, rfl, rfl, rfl, rfl⟩, fun c => by rw [powerDown_comps]; exact ⟨rfl, rfl⟩⟩

end SameRetained

/-- A snapshot formed with no reading leaves the settings and the last good reading. -/
theorem form_unread (x : Compartment) (span : Nat) (now : RouteTime) :
    (x.form none none span now).settings = x.settings ∧ (x.form none none span now).lastGood = x.lastGood := by
  refine ⟨countDown_settings x, ?_⟩
  show (x.select none none).2.1 = x.lastGood
  cases hg : x.lastGood with
  | none => rw [select_blind rfl (.inr rfl) (.inl hg), hg]
  | some g =>
    by_cases hheld : x.held < x.settings.holdLimit
    · rw [select_lastGood rfl (.inr rfl) hg hheld]
    · rw [select_blind rfl (.inr rfl) (.inr (Nat.not_lt.mp hheld)), hg]

/-- Snapshots formed before any answer leave the settings and the last good readings. -/
theorem formSnapshots_unanswered {s : State} (h : ∀ n : ProbeNo, s.probes[n].answered = false) :
    SameRetained s s.formSnapshots := by
  have hpart : ∀ n : ProbeNo, s.partReading n = none := by
    intro n
    rw [partReading_eq, if_neg]
    rintro ⟨-, hanswered, -⟩
    rw [h n] at hanswered
    cases hanswered
  refine ⟨⟨rfl, rfl, rfl, rfl, rfl, rfl⟩, fun c => ?_⟩
  have hget : s.formSnapshots.comps[c] = s.formedComp (s.scanner.span.getD 0) c := by simp [State.formSnapshots]
  rw [hget, State.formedComp, hpart, hpart]
  split
  · exact form_unread _ _ _
  · exact ⟨rfl, rfl⟩

theorem startScan_retained (s : State) : SameRetained s s.startScan := by
  rw [startScan_eq]
  dsimp only
  split
  · refine SameRetained.setScan.trans (formSnapshots_unanswered fun n => ?_)
    simp
  · exact .setScan

theorem accrualAdvance_retained (s : State) : SameRetained s s.accrualAdvance := by
  unfold State.accrualAdvance
  split
  · exact .setScan
  · unfold State.passEnded
    split
    · exact SameRetained.setScan.trans (startScan_retained _)
    · exact .setScan

/-! ### A step completed on the supply against the same step ended -/

/-- On the table and what the compartments retain, a step completes on the supply as it ends on main power. -/
theorem finish_retained (s : State) (st : StepInProgress) : SameRetained (s.completeOnSupply st) (s.finish st) := by
  have hfree : ∀ u : State, SameRetained u u.freeEngine := fun u => .of_comps ⟨rfl, rfl, rfl, rfl, rfl, rfl⟩ rfl
  have houter : ∀ {u t : State}, Outer u.freeEngine t → SameRetained u t :=
    fun h => (hfree _).trans (.of_comps h.sameTable h.comps)
  cases hw : st.work with
  | port p cmd =>
    simp only [State.completeOnSupply, State.finish, hw, State.finishPort]
    split
    · split
      · exact houter (Outer.clearWalk _ _)
      · exact hfree _
    · exact houter (Outer.place _ _ _)
  | moveAllSlot a b i =>
    simp only [State.completeOnSupply, State.finish, hw, State.finishMoveAll]
    split
    · exact hfree _
    · split
      · exact houter (Outer.settleWalk _ _ _ _)
      · exact hfree _
  | accrual =>
    simp only [State.completeOnSupply, State.finish, hw]
    exact (hfree _).trans (accrualAdvance_retained _)
  | gap =>
    simp only [State.completeOnSupply, State.finish, hw]
    have hwork : SameRetained (gapWork st.inputs s) (gapWork st.inputs s).freeEngine.gapAdvance :=
      (hfree _).trans (.of_comps (Scanned.gapAdvance _).sameTable (gapAdvance_comps _))
    split
    · exact ⟨⟨hwork.1.slots, hwork.1.useCount, hwork.1.occupancy, hwork.1.offers, hwork.1.classes, hwork.1.unitId⟩, hwork.2⟩
    · exact hwork
  | lapse =>
    simp only [State.completeOnSupply, State.finish, hw]
    exact hfree _

/-- A visit changes slots and what it raises, and nothing else. -/
theorem visitSlot_outer (s : State) (i : SlotNo) (f : Record → Record × FlagSet) :
    ∃ slots : Vector (Option Record) 128, Outer { s with slots := slots } (s.visitSlot i f) := by
  unfold State.visitSlot
  split
  · exact ⟨_, Outer.raise _ _⟩
  · exact ⟨s.slots, Outer.refl s⟩

theorem Outer.lastSnapshotTime {s t : State} (h : Outer s t) : t.lastSnapshotTime = s.lastSnapshotTime := by
  obtain ⟨_, _, _, _, rfl⟩ := h
  rfl

theorem Outer.exposure {s t : State} (h : Outer s t) : t.exposure = s.exposure := by
  obtain ⟨_, _, _, _, rfl⟩ := h
  rfl

theorem accrualWork_lastSnapshotTime (inp : StepInputs) (s : State) :
    (accrualWork inp s).lastSnapshotTime = s.lastSnapshotTime := by
  unfold accrualWork
  split
  · next g _ =>
    obtain ⟨slots, h⟩ := visitSlot_outer s s.exposure.accrualCursor (accrualVisited inp s.classes g)
    exact h.lastSnapshotTime
  · rfl

/-- What a gap visit leaves of its pass. -/
theorem gapWork_pass (inp : StepInputs) (s : State) : (gapWork inp s).lastSnapshotTime = s.lastSnapshotTime
    ∧ (gapWork inp s).exposure.gapCursor = s.exposure.gapCursor
    ∧ (gapWork inp s).exposure.gapEnd = s.exposure.gapEnd := by
  unfold gapWork
  split
  · exact ⟨rfl, rfl, rfl⟩
  · obtain ⟨slots, h⟩ := visitSlot_outer s s.exposure.gapCursor (gapVisited inp s.classes s.exposure.gapAmount.toNat)
    rw [h.lastSnapshotTime, h.exposure]
    exact ⟨rfl, rfl, rfl⟩

/-- The end of a gap visit takes the gap end as last snapshot time after slot 127's alone. -/
theorem gapAdvance_lastSnapshotTime (s : State) : s.gapAdvance.lastSnapshotTime
    = if s.exposure.gapCursor.val = 127 then s.exposure.gapEnd.getD s.lastSnapshotTime else s.lastSnapshotTime := by
  unfold State.gapAdvance
  split
  · rw [if_neg (by omega)]
  · rw [if_pos (by omega), State.gapEnded, retestHead_eq]

/-- Last snapshot time too, but for an accrual visit, which leaves it as it was. -/
theorem finish_lastSnapshotTime (s : State) (st : StepInProgress) : (s.completeOnSupply st).lastSnapshotTime
    = if st.work = .accrual then s.lastSnapshotTime else (s.finish st).lastSnapshotTime := by
  have houter : ∀ {u t : State}, Outer u.freeEngine t → u.lastSnapshotTime = t.lastSnapshotTime :=
    fun h => h.lastSnapshotTime.symm
  cases hw : st.work with
  | port p cmd =>
    simp only [State.completeOnSupply, State.finish, hw, State.finishPort, reduceCtorEq, if_false]
    split
    · split
      · exact houter (Outer.clearWalk _ _)
      · rfl
    · exact houter (Outer.place _ _ _)
  | moveAllSlot a b i =>
    simp only [State.completeOnSupply, State.finish, hw, State.finishMoveAll, reduceCtorEq, if_false]
    split
    · rfl
    · split
      · exact houter (Outer.settleWalk _ _ _ _)
      · rfl
  | accrual =>
    simp only [State.completeOnSupply, hw, if_true]
    exact accrualWork_lastSnapshotTime _ _
  | gap =>
    obtain ⟨htime, hcursor, hend⟩ := gapWork_pass st.inputs s
    simp only [State.completeOnSupply, State.finish, hw, reduceCtorEq, if_false]
    have hfinish : (gapWork st.inputs s).freeEngine.gapAdvance.lastSnapshotTime
        = if s.exposure.gapCursor.val = 127 then s.exposure.gapEnd.getD s.lastSnapshotTime else s.lastSnapshotTime := by
      rw [gapAdvance_lastSnapshotTime, ← htime, ← hcursor, ← hend]
      rfl
    rw [hfinish, State.lastGapVisit]
    by_cases hlast : s.exposure.gapCursor.val = 127
    · rw [if_pos (beq_iff_eq.mpr hlast), if_pos hlast]
    · rw [if_neg (mt beq_iff_eq.mp hlast), if_neg hlast, htime]
  | lapse => simp only [State.completeOnSupply, State.finish, hw, reduceCtorEq, if_false]; rfl

/-! ### The loss -/

/-- The loss on main power. -/
theorem exec_mainPowerLoss {s : State} (hp : s.power = .present) (completes : Bool) :
    exec (.mainPowerLoss completes) s = .next (s.settleStep completes).powerDown := by
  show Host.Outcome.next (if s.powered then (s.settleStep completes).powerDown else s) = _
  rw [if_pos (show s.powered = true from beq_iff_eq.mpr hp)]

/-- What the step in progress leaves alone however it is settled. -/
structure Untouched (s u : State) : Prop where
  clock : u.clock = s.clock
  lastStart : u.lastStart = s.lastStart
  valid : u.valid = s.valid
  offerTimeout : u.offerTimeout = s.offerTimeout
  scanner : u.scanner = s.scanner
  openings : ∀ c : CompNo, u.comps[c].openings = s.comps[c].openings

theorem Worked.untouched {st : StepInProgress} {s u : State} (h : Worked st s u) : Untouched s u := by
  have hout := h.sameOutside
  have hstart : u.lastStart = s.lastStart ∧ u.valid = s.valid := by
    cases h with
    | admitted hfree hid hzero hk hc hr =>
      rw [takeAboard_eq]
      exact ⟨rfl, rfl⟩
    | _ => exact ⟨rfl, rfl⟩
  refine ⟨hout.clock, hstart.1, hstart.2, hout.offerTimeout, hout.scanner, fun c => ?_⟩
  rcases h.comps with ⟨hc, -⟩ | ⟨p, k, v, -, -, rfl⟩
  · rw [hc]
  · show (put s.comps k (s.comps[k].switchOff v.clamped))[c].openings = _
    rw [put_get]
    split
    · rename_i hk
      rw [← hk]
      rfl
    · rfl

/-- The state after a loss, by what it keeps of the state before and what every loss leaves. -/
theorem powerLoss_keeps (s : State) (completes : Bool) :
    ∃ u : State, Untouched s u ∧ (s.settleStep completes).powerDown = u.powerDown := by
  obtain ⟨u, time, h, hu⟩ := settleStep_powerDown s completes
  have hkeep : Untouched s u := by
    rcases hu with rfl | ⟨st, -, hwork⟩
    · exact ⟨rfl, rfl, rfl, rfl, rfl, fun _ => rfl⟩
    · exact hwork.untouched
  obtain ⟨h1, h2, h3, h4, h5, h6⟩ := hkeep
  exact ⟨{ u with lastSnapshotTime := time }, ⟨h1, h2, h3, h4, h5, h6⟩, h⟩

/-- The step completed, as its end on main power leaves the retained items. -/
theorem settleStep_completes {s : State} {st : StepInProgress} (he : s.engine = some st) :
    s.settleStep true = s.completeOnSupply st := by
  rw [State.settleStep, he]
  rfl

/-- No step completed. -/
theorem settleStep_of_none {s : State} {completes : Bool} (h : s.engine = none ∨ completes = false) :
    s.settleStep completes = s := by
  unfold State.settleStep
  cases he : s.engine with
  | none => rfl
  | some st =>
    rcases h with h | rfl
    · rw [he] at h
      cases h
    · rfl

/-- A completed step's loss keeps what the step's end makes of the table and of the retained items. -/
theorem powerLoss_completes {s : State} {st : StepInProgress} (he : s.engine = some st) :
    SameRetained (s.finish st) (s.settleStep true).powerDown
      ∧ (s.settleStep true).powerDown.lastSnapshotTime
        = if st.work = .accrual then s.lastSnapshotTime else (s.finish st).lastSnapshotTime := by
  have hdown := SameRetained.powerDown (s.completeOnSupply st)
  obtain ⟨htable, hcomps⟩ := finish_retained s st
  have hback : SameRetained (s.finish st) (s.completeOnSupply st) :=
    ⟨⟨htable.slots.symm, htable.useCount.symm, htable.occupancy.symm, htable.offers.symm, htable.classes.symm,
      htable.unitId.symm⟩, fun c => ⟨(hcomps c).1.symm, (hcomps c).2.symm⟩⟩
  rw [settleStep_completes he]
  exact ⟨hback.trans hdown, finish_lastSnapshotTime s st⟩

/-- What every loss leaves of a port. -/
theorem powerDown_port (u : State) (p : PortId) : (u.powerDown.port p).phase = .idle ∧ (u.powerDown.port p).frame = none
    ∧ (u.powerDown.port p).lastRefusal = none ∧ (u.powerDown.port p).filter = none ∧ (u.powerDown.port p).flags = 0
    ∧ u.powerDown.readyLine p = false := by
  cases p <;> exact ⟨rfl, rfl, rfl, rfl, rfl, rfl⟩

/-- What every loss leaves of a compartment. -/
theorem powerDown_comp (u : State) (c : CompNo) : u.powerDown.comps[c].snapshot = none
    ∧ u.powerDown.comps[c].defrost = .normal ∧ u.powerDown.comps[c].doorDeadline = none
    ∧ u.powerDown.comps[c].openings = u.comps[c].openings ∧ u.powerDown.comps[c].keptSource = none
    ∧ u.powerDown.comps[c].held = 0 := by
  rw [powerDown_comps]
  exact ⟨rfl, rfl, rfl, rfl, rfl, rfl⟩

/-- The rows that end a step of no port, or a MOVE ALL slot step, end it by its finish. -/
theorem exec_ends_of_work_row {c : Instr} {w : StepWork} {inp : StepInputs} {discarded : Bool} {s : State}
    (hp : s.power = .present) (he : s.engine = some { work := w, inputs := inp, discarded := discarded })
    (hrow : (c, w) ∈ [(.accrualVisit .ends, .accrual), (.gapVisit .ends, .gap), (.lapseStep .ends, .lapse)]
      ∨ (c = .moveAllSlot .ends ∧ ∃ (a b : Byte) (i : SlotNo), w = .moveAllSlot a b i)) :
    exec c s = .next (s.finish { work := w, inputs := inp, discarded := discarded }) := by
  rcases hrow with hrow | ⟨rfl, a, b, i, rfl⟩
  · simp only [List.mem_cons, Prod.mk.injEq, List.not_mem_nil, or_false] at hrow
    rcases hrow with ⟨rfl, rfl⟩ | ⟨rfl, rfl⟩ | ⟨rfl, rfl⟩
    · exact congrArg Host.Outcome.next (endStep_eq_finish (kind := (· == .accrual)) hp he rfl)
    · exact congrArg Host.Outcome.next (endStep_eq_finish (kind := (· == .gap)) hp he rfl)
    · exact congrArg Host.Outcome.next (endStep_eq_finish (kind := (· == .lapse)) hp he rfl)
  · exact exec_slot_ends hp he

/-- Settles O50: every loss leaves the same of what is lost, and the retained items are those of the state before, or of
the state that the completed step's end gives. -/
theorem powerLossKeepsTheRetentionDomain : Obligations.PowerLossKeepsTheRetentionDomain := by
  intro completes s hp
  obtain ⟨u, hu, ht⟩ := powerLoss_keeps s completes
  have hperiod : u.scanner.period = s.scanner.period := congrArg Scanner.period hu.scanner
  have htag : u.scanner.tag = s.scanner.tag := congrArg Scanner.tag hu.scanner
  refine ⟨_, exec_mainPowerLoss hp completes, ht ▸ rfl, ht ▸ hu.clock, ht ▸ hu.lastStart, ht ▸ hu.valid,
    ht ▸ hu.offerTimeout, ht ▸ hperiod, ht ▸ htag, ht ▸ rfl, ht ▸ rfl,
    ht ▸ rfl, ht ▸ rfl, ht ▸ rfl, ht ▸ rfl, ht ▸ rfl, ht ▸ rfl, ht ▸ powerDown_port u, fun c => ?_, fun hno => ?_,
    fun p cmd row inp discarded v hc he hrow hv => ?_, fun c w inp discarded v hc he hrow hv => ?_⟩
  · obtain ⟨hsnap, hdefrost, hdeadline, hopenings, hkept, hheld⟩ := powerDown_comp u c
    rw [ht]
    exact ⟨hsnap, hdefrost, hdeadline, hopenings.trans (hu.openings c), hkept, hheld⟩
  · obtain ⟨htable, hcomps⟩ := SameRetained.powerDown s
    rw [settleStep_of_none hno]
    exact ⟨htable.slots, htable.useCount, htable.occupancy, htable.offers, htable.classes, htable.unitId, rfl, hcomps⟩
  · subst hc
    rw [exec_ends_eq_finish hp he rfl hrow] at hv
    cases hv
    obtain ⟨⟨htable, hcomps⟩, htime⟩ := powerLoss_completes he
    exact ⟨htable.slots, htable.useCount, htable.occupancy, htable.offers, htable.classes, htable.unitId,
      htime.trans (if_neg nofun), hcomps⟩
  · subst hc
    rw [exec_ends_of_work_row hp he hrow] at hv
    cases hv
    obtain ⟨⟨htable, hcomps⟩, htime⟩ := powerLoss_completes he
    exact ⟨htable.slots, htable.offers, htable.useCount, htable.occupancy, htable.classes, htable.unitId, htime, hcomps⟩

end Sys2Proof.Machine
end

section
/-!
PROOFS. The return of main power: the resume start, the blank start, and a start cut short (R151, R152, R154, R158).
-/
namespace Sys2Proof.Machine

/-! ### The rows -/

theorem State.powered_of_lost {s : State} (h : s.power = .lost) : s.powered = false := by
  rw [State.powered, h]
  rfl

/-- A return without main power runs the whole start. -/
theorem exec_mainPowerReturn_whole {s : State} (h : s.power = .lost) :
    exec (.mainPowerReturn none) s = .next (runStages s.startStages { s with power := .present }) := by
  show Host.Outcome.next (if s.powered then s else runStages s.startStages { s with power := .present }) = _
  rw [State.powered_of_lost h, if_neg (by nofun)]

/-- A return cut short runs the stages before the further loss. -/
theorem exec_mainPowerReturn_cut {s : State} (h : s.power = .lost) (k : Nat) :
    exec (.mainPowerReturn (some k)) s
      = .next (runStages (s.startStages.take k) { s with power := .present }).powerDown := by
  show Host.Outcome.next
    (if s.powered then s else (runStages (s.startStages.take k) { s with power := .present }).powerDown) = _
  rw [State.powered_of_lost h, if_neg (by nofun)]

theorem startStages_blank {s : State} (h : s.valid = false) : s.startStages = blankStages := by
  rw [State.startStages, h, if_neg (by nofun)]

theorem startStages_resume {s : State} (h : s.valid = true) : s.startStages = resumeStages := by
  rw [State.startStages, h, if_pos rfl]

theorem exec_retentionSupplyFails {s : State} (h : s.power = .lost) :
    exec .retentionSupplyFails s = .next { s with valid := false } := by
  show Host.Outcome.next (if s.powered then s else { s with valid := false }) = _
  rw [State.powered_of_lost h, if_neg (by nofun)]

/-! ### A compartment at a resume start -/

/-- An ACTIVE compartment at a resume start. -/
theorem resume_of_active {x : Compartment} (h : x.settings.active = true) (now : RouteTime) (line : Bool) (period : Nat) :
    x.resume now line period =
      { settings := x.settings, defrost := .normal, shieldLeft := 0, recoveryLeft := 0
        doorOpen := line
        openings := if line = true then x.openings + 1 else x.openings
        doorDeadline := if line = true then some (now + BitVec.ofNat 32 x.settings.doorLimit) else none
        lastGood := x.lastGood, held := 0, keptSource := none
        snapshot := some { reading := .blind, span := period, doorOpen := line, shielded := false, takenAt := now }
        ceilingInForce := x.settings.ceiling } := by
  rw [Compartment.resume]
  exact if_pos h

/-- An OFF compartment there takes the OFF form. -/
theorem resume_of_off {x : Compartment} (h : x.settings.active = false) (now : RouteTime) (line : Bool) (period : Nat) :
    x.resume now line period
      = Compartment.switchOff { x.dark with ceilingInForce := x.settings.ceiling } x.settings := by
  rw [Compartment.resume]
  exact if_neg (by rw [Compartment.active, h]; nofun)

/-- What a compartment formed at a resume start keeps when the start is then cut: its settings and, but for the OFF form,
its last good reading, with an open door of an ACTIVE one counted. -/
theorem resume_keeps (x : Compartment) (now : RouteTime) (line : Bool) (period : Nat) :
    (x.resume now line period).settings = x.settings
      ∧ (CompRight x → (x.resume now line period).lastGood = x.lastGood)
      ∧ (x.resume now line period).openings
        = if x.settings.active = true ∧ line = true then x.openings + 1 else x.openings := by
  cases h : x.settings.active with
  | true =>
    rw [resume_of_active h]
    exact ⟨rfl, fun _ => rfl, by cases line <;> rfl⟩
  | false =>
    rw [resume_of_off h]
    refine ⟨rfl, fun hx => ?_, (if_neg (by nofun)).symm⟩
    obtain ⟨-, -, -, -, -, hoff⟩ := hx
    obtain ⟨-, -, -, -, -, -, hgood, -⟩ := hoff h
    exact hgood.symm

/-! ### The starts -/

/-- A resume start cut after some of its stages. -/
theorem resumeCut_spec (s : State) (k : Nat) :
    (runStages (resumeStages.take k) { s with power := .present }).powerDown
      = State.powerDown
          { s with
            lastStart := if k = 0 then s.lastStart else .resume
            comps := if 2 ≤ k then s.resumedComps else s.comps } :=
  match k with
  | 0 => rfl
  | 1 => rfl
  | 2 => rfl
  | 3 => rfl
  | 4 => rfl
  | k + 5 => by
    rw [List.take_of_length_le (show resumeStages.length ≤ k + 5 by simp [resumeStages]), if_neg (by omega),
      if_pos (by omega)]
    rfl

/-- A blank start cut after some of its stages has the mark set from the second on. -/
theorem blankCut_valid {s : State} (h : s.valid = false) (k : Nat) :
    (runStages (blankStages.take k) { s with power := .present }).powerDown.valid = true ↔ 2 ≤ k :=
  match k with
  | 0 => by
    show s.valid = true ↔ 2 ≤ 0
    rw [h]
    decide
  | 1 => by
    show s.valid = true ↔ 2 ≤ 1
    rw [h]
    decide
  | k + 2 => by
    refine iff_of_true ?_ (by omega)
    cases k with
    | zero => rfl
    | succ k =>
      rw [List.take_of_length_le (show blankStages.length ≤ k + 1 + 2 by simp [blankStages])]
      rfl

/-- A port after a resume start. -/
theorem resumed_port (s : State) (p : PortId) : (s.resumed.port p).phase = .idle ∧ (s.resumed.port p).lastRefusal = none
    ∧ (s.resumed.port p).cursor = 0 ∧ (s.resumed.port p).filter = none
    ∧ (s.resumed.port p).flags = BitVec.twoPow 38 35 ∧ (s.resumed.port p).mask = BitVec.allOnes 38
    ∧ s.resumed.readyLine p = true := by
  have hready : (true && ((PortPhase.idle.byte == 3) || (powerGapOnly &&& BitVec.allOnes 38 != 0))) = true := by decide
  cases p <;> exact ⟨rfl, rfl, rfl, rfl, rfl, rfl, hready⟩

/-- A probe after a resume start. -/
theorem resumed_probe (s : State) (n : ProbeNo) : s.resumed.probes[n].reading = none ∧ s.resumed.probes[n].status =
    (if servedBy (s.comps[(⟨n.val / 2, by omega⟩ : CompNo)]).settings n = true then .unread else .absent) := by
  have hserved : (State.resumeComps (State.resumePorts { s with power := .present })).inService n
      = servedBy (s.comps[(⟨n.val / 2, by omega⟩ : CompNo)]).settings n := by
    show servedBy s.resumed.comps[probeComp n].settings n = _
    rw [resumed_comps, (resume_keeps _ _ _ _).1]
    rfl
  have hprobe : s.resumed.probes[n] = if (State.resumeComps (State.resumePorts { s with power := .present })).inService n
      then .entered else .outOfService := by
    show (Vector.ofFn (fun n : ProbeNo =>
      if (State.resumeComps (State.resumePorts { s with power := .present })).inService n then Probe.entered
      else .outOfService))[n] = _
    simp
  rw [hprobe, hserved]
  split <;> exact ⟨rfl, rfl⟩

/-- Settles O51. -/
theorem powerReturnStartsByTheMark : Obligations.PowerReturnStartsByTheMark := by
  intro s h
  refine ⟨fun hblank => ?_, exec_retentionSupplyFails h, fun hvalid => ?_, fun k => ?_⟩
  · rw [exec_mainPowerReturn_whole h, startStages_blank hblank]
    rfl
  · refine ⟨s.resumed, ?_, rfl, rfl, hvalid, rfl, rfl, rfl, rfl, rfl, rfl, rfl, rfl, rfl, resumed_port s, fun c => ?_, rfl,
      resumed_probe s, rfl, rfl, rfl, rfl, rfl⟩
    · rw [exec_mainPowerReturn_whole h, startStages_resume hvalid]
      rfl
    · intro x
      rw [resumed_comps]
      refine ⟨fun hon => resume_of_active hon _ _ _, fun hoff => ?_⟩
      rw [resume_of_off hoff]
      exact ⟨switchOff_right _ _, rfl, rfl⟩
  · refine ⟨_, exec_mainPowerReturn_cut h k, rfl, rfl, fun hvalid => ?_, fun hblank => ?_⟩
    · rw [startStages_resume hvalid, resumeCut_spec]
      refine ⟨hvalid, rfl, rfl, rfl, rfl, rfl, rfl, rfl, rfl, rfl, rfl, rfl, rfl, fun c => ?_⟩
      rw [powerDown_comps]
      by_cases hk : 2 ≤ k
      · obtain ⟨hsettings, hgood, hopenings⟩ := resume_keeps s.comps[c] s.clock s.doorLines[c] s.scanner.period
        have hget : s.resumedComps[c] = s.comps[c].resume s.clock s.doorLines[c] s.scanner.period := resumed_comps s c
        rw [if_pos hk, hget]
        refine ⟨hsettings, hgood, hopenings.trans ?_⟩
        exact if_congr (and_iff_right hk).symm rfl rfl
      · rw [if_neg hk]
        exact ⟨rfl, fun _ => rfl, (if_neg fun hcounted => hk hcounted.1).symm⟩
    · rw [startStages_blank hblank]
      exact blankCut_valid hblank k

end Sys2Proof.Machine
end
